-- ==== Sys2Proof/Word.lean ====
section
/-!
DEFINITION. The plain types of the model: bytes, lights and sets of lights, and the two
fixed-size collections the part uses, eight things (one for each light) and four things (one for each
sense input or stage bank). 00_scope.md section 5, 11_message_layouts.md section 11.2.
-/

namespace Sys2Proof

/-- One byte of a frame. -/
abbrev Byte := BitVec 8

/-- A light number, L0 to L7 (00_scope.md section 5). -/
abbrev Light := Fin 8

/-- A set of lights, or a pattern of the eight auxiliary outputs: bit n stands for member n (R183). -/
abbrev LightSet := BitVec 8

/-- A set of camera lines or of marker levels: four members (R183). -/
abbrev LineSet := BitVec 4

/-- Eight like things, one for each light. -/
structure Octet (α : Type) where
  l0 : α
  l1 : α
  l2 : α
  l3 : α
  l4 : α
  l5 : α
  l6 : α
  l7 : α
  deriving DecidableEq, Repr

/-- The eight values of a function of the light number. -/
def Octet.ofFn {α : Type} (f : Light → α) : Octet α :=
  ⟨f 0, f 1, f 2, f 3, f 4, f 5, f 6, f 7⟩

/-- The thing of light `i`. -/
def Octet.get {α : Type} (o : Octet α) (i : Light) : α :=
  match i with
  | 0 => o.l0
  | 1 => o.l1
  | 2 => o.l2
  | 3 => o.l3
  | 4 => o.l4
  | 5 => o.l5
  | 6 => o.l6
  | 7 => o.l7

/-- The collection with the thing of light `i` replaced. -/
def Octet.set {α : Type} (o : Octet α) (i : Light) (x : α) : Octet α :=
  Octet.ofFn fun j => if j = i then x else o.get j

/-- Every thing put through `f`. -/
def Octet.map {α β : Type} (f : α → β) (o : Octet α) : Octet β :=
  Octet.ofFn fun j => f (o.get j)

/-- Four like things, one for each sense input or stage bank. -/
structure Quad (α : Type) where
  q0 : α
  q1 : α
  q2 : α
  q3 : α
  deriving DecidableEq, Repr

/-- The four values of a function of the number. -/
def Quad.ofFn {α : Type} (f : Fin 4 → α) : Quad α :=
  ⟨f 0, f 1, f 2, f 3⟩

/-- The thing numbered `i`. -/
def Quad.get {α : Type} (o : Quad α) (i : Fin 4) : α :=
  match i with
  | 0 => o.q0
  | 1 => o.q1
  | 2 => o.q2
  | 3 => o.q3

/-- The collection with the thing numbered `i` replaced. -/
def Quad.set {α : Type} (o : Quad α) (i : Fin 4) (x : α) : Quad α :=
  Quad.ofFn fun j => if j = i then x else o.get j

/-- Every thing put through `f`. -/
def Quad.map {α β : Type} (f : α → β) (o : Quad α) : Quad β :=
  Quad.ofFn fun j => f (o.get j)

end Sys2Proof
end

