-- ==== Sys2Proof/Config.lean ====
section
/-!
DEFINITION. What the part's type fixes: its identity and its capacities (R168, R1, R149, R126, R161,
R165). The spec leaves no value of the model open, so there is no free value here.
-/

namespace Sys2Proof.Config

/-- Part code returned by IDENTIFY (R168). -/
def partCode : Nat := 848

/-- Silicon revision of the parts the manual specifies (R168). -/
def siliconRevision : Nat := 1

/-- Shot Table slots (R1, R168). -/
def tableCapacity : Nat := 128

/-- Result records the Result Queue holds (R149, R168). -/
def resultCapacity : Nat := 512

/-- Stage memory slots (R126, R168). -/
def stageCapacity : Nat := 64

/-- Frames the Command Queue holds (09_the_link_port.md section 9.1). -/
def commandCapacity : Nat := 4

/-- Frames the Reply Queue holds (09_the_link_port.md section 9.1). -/
def replyCapacity : Nat := 4

/-- Frames the Report Queue holds (09_the_link_port.md section 9.1). -/
def reportCapacity : Nat := 16

/-- The longest payload a frame carries (09_the_link_port.md section 9.2). -/
def payloadCapacity : Nat := 250

/-- The charge, in nA·µs, that brings an integrator's count to 65535: 20 µA held for 1000 µs (R28). -/
def fullScaleCharge : Nat := 20000 * 1000

/-- The highest count of an integrator (R28). -/
def topCount : Nat := 65535

end Sys2Proof.Config
end

