-- ==== Sys2Proof/Syntax.lean ====
section
/-!
DEFINITION. The rows of spec/opcode_table.json, one constructor each: the 40 host commands (each carries
the tag and the payload bytes of its frame, so that every length and encoding check of R183 is the
model's to make) and the 27 events of the part's pins, timers and link.
-/

namespace Sys2Proof

/-- The direction of an edge, and the polarity that makes that edge the active one (R51, R72). -/
inductive Polarity where
  /-- The rising edge is active and high is the active level. -/
  | rising
  /-- The falling edge is active and low is the active level. -/
  | falling
  deriving DecidableEq, Repr

/-- The commands and events the block takes. -/
inductive Instr where
  /-- IDENTIFY: the part code, revision and capacities (R168). -/
  | identify (tag : Byte) (payload : List Byte)
  /-- STATUS: the part's state, all taken in one event (R169). -/
  | status (tag : Byte) (payload : List Byte)
  /-- REPORT_MASK: replaces the mask of the report kinds (R166). -/
  | reportMask (tag : Byte) (payload : List Byte)
  /-- RESET_RUN: the RESET command of kind RUN (R170). -/
  | resetRun (tag : Byte)
  /-- RESET_FULL: the RESET command of kind FULL (R171). -/
  | resetFull (tag : Byte)
  /-- UNKNOWN_CODE: a command frame whose code names no command (R162). -/
  | unknownCode (code tag : Byte) (payload : List Byte)
  /-- SHOT_PUT: replaces or appends a Shot Table entry (R13). -/
  | shotPut (tag : Byte) (payload : List Byte)
  /-- SHOT_GET: a copy of a defined entry (R16). -/
  | shotGet (tag : Byte) (payload : List Byte)
  /-- SEQ_SELECT: sets `seq_start` (R17). -/
  | seqSelect (tag : Byte) (payload : List Byte)
  /-- TABLE_CLEAR: empties the Shot Table (R18). -/
  | tableClear (tag : Byte) (payload : List Byte)
  /-- FIRE: starts a test shot (R41). -/
  | fire (tag : Byte) (payload : List Byte)
  /-- SENSE_SET: writes the four baselines (R29). -/
  | senseSet (tag : Byte) (payload : List Byte)
  /-- SENSE_GET: the last readings and the baselines (R30). -/
  | senseGet (tag : Byte) (payload : List Byte)
  /-- RUN_SETUP: replaces the whole run setup (R46). -/
  | runSetup (tag : Byte) (payload : List Byte)
  /-- START: opens, arms or resumes a run (R53). -/
  | start (tag : Byte) (payload : List Byte)
  /-- CYCLE: the cycle-source event of cycle source COMMAND (R61). -/
  | cycle (tag : Byte) (payload : List Byte)
  /-- HALT: disarms, or raises a stop event of kind HALT (R67). -/
  | halt (tag : Byte) (payload : List Byte)
  /-- ABORT: ends any run or test shot at once (R68). -/
  | abort (tag : Byte) (payload : List Byte)
  /-- LOCK_SETUP: stores the line lock setup (R71). -/
  | lockSetup (tag : Byte) (payload : List Byte)
  /-- REG_MODE: sets a regulator's mode (R101). -/
  | regMode (tag : Byte) (payload : List Byte)
  /-- REG_FORCE: writes a regulator's actuators (R103). -/
  | regForce (tag : Byte) (payload : List Byte)
  /-- REG_BANDS: stores a regulator's bounds and weights (R104). -/
  | regBands (tag : Byte) (payload : List Byte)
  /-- REG_LIMITS: stores a regulator's limits (R105). -/
  | regLimits (tag : Byte) (payload : List Byte)
  /-- REG_GET: a regulator's whole record (R107). -/
  | regGet (tag : Byte) (payload : List Byte)
  /-- LIGHT_DUTY: stores a light's heat limit and cooling rate (R116). -/
  | lightDuty (tag : Byte) (payload : List Byte)
  /-- LIGHT_GET: a light's channel state (R124). -/
  | lightGet (tag : Byte) (payload : List Byte)
  /-- FAULT_CLEAR: clears a latched fault (R122). -/
  | faultClear (tag : Byte) (payload : List Byte)
  /-- STAGE_OPEN: opens a bank for capture (R129). -/
  | stageOpen (tag : Byte) (payload : List Byte)
  /-- STAGE_CLOSE: makes the OPEN bank READY (R132). -/
  | stageClose (tag : Byte) (payload : List Byte)
  /-- STAGE_LAUNCH: applies a bank at once or makes it PENDING (R133). -/
  | stageLaunch (tag : Byte) (payload : List Byte)
  /-- STAGE_DROP: cancels a launch or empties a bank (R135). -/
  | stageDrop (tag : Byte) (payload : List Byte)
  /-- STAGE_LAYOUT: sets the bank starts (R127). -/
  | stageLayout (tag : Byte) (payload : List Byte)
  /-- STAGE_ALTERNATE: sets or clears the alternation record (R141). -/
  | stageAlternate (tag : Byte) (payload : List Byte)
  /-- STAGE_GET: the Stage Unit's state (R145). -/
  | stageGet (tag : Byte) (payload : List Byte)
  /-- RESULT_READ: removes and returns the oldest records (R151). -/
  | resultRead (tag : Byte) (payload : List Byte)
  /-- RESULT_FLUSH: empties the Result Queue (R153). -/
  | resultFlush (tag : Byte) (payload : List Byte)
  /-- RESULT_THRESHOLD: stores the threshold (R154). -/
  | resultThreshold (tag : Byte) (payload : List Byte)
  /-- STANDBY: returns the supply to STANDBY (R175). -/
  | standby (tag : Byte) (payload : List Byte)
  /-- WAKE: starts a wake (R176). -/
  | wake (tag : Byte) (payload : List Byte)
  /-- SUPPLY_SETUP: stores the settle time and wake-on-trigger (R179). -/
  | supplySetup (tag : Byte) (payload : List Byte)
  /-- FRAME_RECEIVED: a whole frame arrives at RXD, its bytes from the start byte to CHECK in order (R158, R160). -/
  | frameReceived (bytes : List Byte)
  /-- BYTE_RECEIVED: one byte arrives at RXD (R158). -/
  | byteReceived (b : Byte)
  /-- FRAMING_ERROR: a byte with a bad stop bit; `held` says that the line stays at the wrong level for longer than one byte time (R159). -/
  | framingError (held : Bool)
  /-- GAP_TIMER_EXPIRY: the gap timer expires (R159). -/
  | gapTimerExpiry
  /-- LINE_RETURN_TO_IDLE: RXD returns to its idle level after it was held (R159). -/
  | lineReturnToIdle
  /-- FRAME_SENT: the transmitter has sent the last byte of its frame (R164). -/
  | frameSent
  /-- FULL_RESET: the last byte of the RESET FULL reply has been sent and the full reset takes place (R171). -/
  | fullReset
  /-- POWER_ON: power-on causes a full reset at once (R172). -/
  | powerOn
  /-- RSTN_LOW: RSTN has been held low for at least 10 µs (R172). -/
  | rstnLow
  /-- RESET_COMPLETION: RSTN returns high, or the supplies reach their range (R172). -/
  | resetCompletion
  /-- PACER_EXPIRY: the pacer expires (R49). -/
  | pacerExpiry
  /-- ENC_EDGE: a rising edge of ENC (R50). -/
  | encEdge
  /-- ENCODER_COUNTER_ZERO: the edge of ENC that brings the encoder counter to 0 (R50). -/
  | encoderCounterZero
  /-- TRIG_ACTIVE_EDGE: TRIG goes to its active level (R51). -/
  | trigActiveEdge
  /-- TRIG_INACTIVE_EDGE: TRIG goes to its inactive level (R56). -/
  | trigInactiveEdge
  /-- SYNC_EDGE: an edge of SYNC in the direction given; it is active when the direction is the lock's polarity (R72). -/
  | syncEdge (direction : Polarity)
  /-- WATCH_EXPIRY: the sync watch timer expires (R73). -/
  | watchExpiry
  /-- PHASE_DELAY_END: the phase delay of a PHASE hold runs out (R76). -/
  | phaseDelayEnd
  /-- FLASH_START: the lead of the shot in flight expires (R25). -/
  | flashStart
  /-- FIRING_END: the light's own duration expires (R27). -/
  | firingEnd (light : Light)
  /-- FLASH_END: the flash phase runs out; `charges` is the charge, in nA·µs, that has flowed into each sense input since flash start and that no passing of time has counted yet, `markers` the levels of M0 to M3 (R28, R31; log entry 10). -/
  | flashEnd (charges : Quad Nat) (markers : LineSet)
  /-- TAIL_END: the tail expires (R35). -/
  | tailEnd
  /-- GAP_END: the gap expires (R36). -/
  | gapEnd
  /-- DUTY_TIMER_EXPIRY: the 1 ms duty timer expires (R115). -/
  | dutyTimerExpiry
  /-- FAULT_ARRIVAL: the light's fault line becomes active (R117). -/
  | faultArrival (light : Light)
  /-- SETTLE_EXPIRY: the settle timer expires (R178). -/
  | settleExpiry
  /-- FAULT_LINE_RETURN_TO_INACTIVE: the light's fault line becomes inactive (R117). -/
  | faultLineReturnToInactive (light : Light)
  deriving DecidableEq, Repr

end Sys2Proof
end

