-- ==== Sys2Proof/Machine/Frame.lean ====
section
/-!
DEFINITION. The frame on the link, its bytes on the line and its CHECK (11_message_layouts.md section
11.1, R182).
-/

namespace Sys2Proof.Machine

/-- A checked frame: its code, tag and payload. LEN and CHECK follow from these. -/
structure Frame where
  code : Byte
  tag : Byte
  payload : List Byte
  deriving DecidableEq, Repr

/-- The value of the start byte (11_message_layouts.md section 11.1). -/
def startByte : Byte := 0xA7#8

/-- One shift of the CRC-8 register with polynomial x⁸ + x² + x + 1 (R182). -/
def crcShift (r : Byte) : Byte :=
  if r.msb then (r <<< 1) ^^^ 0x07#8 else r <<< 1

/-- The CRC register after one byte, fed most significant bit first (R182). -/
def crcByte (r b : Byte) : Byte :=
  Nat.repeat crcShift 8 (r ^^^ b)

/-- The CRC-8 of a list of bytes, from initial value 0, with no final inversion (R182). -/
def crc8 (bytes : List Byte) : Byte :=
  bytes.foldl crcByte 0#8

/-- LEN, code, tag and payload: the bytes that CHECK covers (R182). -/
def frameBody (f : Frame) : List Byte :=
  BitVec.ofNat 8 (2 + f.payload.length) :: f.code :: f.tag :: f.payload

/-- A frame's bytes on the line, from the start byte to CHECK (11_message_layouts.md section 11.1). -/
def frameBytes (f : Frame) : List Byte :=
  startByte :: (frameBody f ++ [crc8 (frameBody f)])

end Sys2Proof.Machine
end

