-- ==== Sys2Proof/Machine/State.lean ====
section
/-!
DEFINITION. The state of the block, one structure for each block of 00_scope.md section 3, and its value
right after reset. Plain data throughout; INVENTORY.md lists every field with its rule.
-/

namespace Sys2Proof.Machine

/-- The block stops with no fault: the spec names none (a driver fault is state, a refused command is
answered by a status, a link error is counted). No constructor, so nothing can raise one. -/
inductive Fault where
  deriving DecidableEq, Repr

/-- Why a command has no meaning. -/
inductive Refusal where
  /-- Raised by an arm of `exec` whose command has no meaning yet; safe, the machine stops. -/
  | notModelled (mnemonic : String)
  deriving DecidableEq, Repr

/-! ### Shot Table (01_the_shot_table.md) -/

/-- The fixed drive of an override entry (R6). -/
structure Override where
  current : Nat
  duration : Nat
  deriving DecidableEq, Repr

/-- An entry record, with the ten fields of section 1.2. `endFlag` is the END flag. -/
structure ShotEntry where
  lights : LightSet
  cameras : LineSet
  lead : Nat
  window : Nat
  tail : Nat
  gap : Nat
  aux : Byte
  regulate : Option Light
  fixed : Option Override
  skip : Bool
  pause : Bool
  endFlag : Bool
  baseline : Bool
  deriving DecidableEq, Repr

/-- The Shot Table: the defined entries, from entry 0 up, and `seq_start` (R1, R10). -/
structure ShotTable where
  entries : List ShotEntry
  seqStart : Nat
  deriving DecidableEq, Repr

/-- `count`, the number of defined entries (R1). -/
def ShotTable.count (t : ShotTable) : Nat := t.entries.length

/-! ### Shot Sequencer (02_shot_execution_and_sensing.md) -/

/-- Sequencer states (R21). -/
inductive SeqState where
  | quiet | waitSync | shooting | suspended | testing
  deriving DecidableEq, Repr

/-- Shot phases (R3). -/
inductive Phase where
  | lead | flash | tail | gap
  deriving DecidableEq, Repr

/-- A shot in flight: the entry as read at shot start and its index (R12, R24), whether it is a test
shot, its phase with the time left in it, the flash length and the three sets of R25. -/
structure Shot where
  index : Nat
  entry : ShotEntry
  test : Bool
  phase : Phase
  timeLeft : Nat
  flashLength : Nat
  fired : LightSet
  clipped : LightSet
  cut : LightSet
  deriving DecidableEq, Repr

/-- The cycle flags (R40). -/
structure CycleFlags where
  short : Bool
  aborted : Bool
  unlocked : Bool
  lost : Bool
  clipped : Bool
  deriving DecidableEq, Repr

/-- The Shot Sequencer (section 2.1), with the camera lines and auxiliary outputs it drives. -/
structure Sequencer where
  state : SeqState
  shot : Option Shot
  cursor : Nat
  cycleNumber : Nat
  position : Nat
  shotsRun : Nat
  missedDuring : Nat
  flags : CycleFlags
  lastEntry : Bool
  cameras : LineSet
  aux : Byte
  deriving DecidableEq, Repr

/-- The Sense Front End (section 2.5). An integrator is held as the charge it has counted, in nA·µs, from 0 to
`Config.fullScaleCharge`; its count, 0 to 65535, is `countOf` of that charge (R28; log entry 10). -/
structure SenseFrontEnd where
  integrators : Quad Nat
  integrating : Bool
  readings : Quad Nat
  baselines : Quad Nat
  deriving DecidableEq, Repr

/-! ### Level Regulator Bank (05_level_regulators.md) -/

/-- Regulator modes (R81). -/
inductive RegMode where
  | off | manual | auto
  deriving DecidableEq, Repr

/-- Regulator states (R81). -/
inductive RegState where
  | off | manual | converging | stable | satHigh | satLow
  deriving DecidableEq, Repr

/-- The eight limits of REG_LIMITS (R105). -/
structure RegLimits where
  durMin : Nat
  durCeiling : Nat
  curFloor : Nat
  curCeiling : Nat
  durStep : Nat
  curStep : Nat
  ratio : Nat
  bandStep : Nat
  deriving DecidableEq, Repr

/-- The six bounds and four weights of REG_BANDS (R104). -/
structure RegBands where
  fastLow : Nat
  leaveLow : Nat
  enterLow : Nat
  enterHigh : Nat
  leaveHigh : Nat
  fastHigh : Nat
  weights : Quad Nat
  deriving DecidableEq, Repr

/-- A regulator record (R81). -/
structure Regulator where
  mode : RegMode
  state : RegState
  duration : Nat
  current : Nat
  limits : RegLimits
  bands : RegBands
  sum : Nat
  count : Nat
  lastFigure : Option Nat
  clipped : Bool
  deriving DecidableEq, Repr

/-! ### Light Channel Unit (06_light_channels_duty_guard_and_fault_inputs.md) -/

/-- A firing in progress: its current code and the time left until its own duration ends (R110). -/
structure Firing where
  current : Nat
  timeLeft : Nat
  deriving DecidableEq, Repr

/-- A light channel record (R110). The drive is on exactly while there is a firing. -/
structure LightChannel where
  heat : Nat
  heatLimit : Nat
  coolRate : Nat
  faulted : Bool
  firing : Option Firing
  deriving DecidableEq, Repr

/-- The drive: on or off (R110). -/
def LightChannel.on (c : LightChannel) : Bool := c.firing.isSome

/-- The level of the gate output Gn (R111). -/
def LightChannel.gate (c : LightChannel) : Bool := c.on

/-- The code on the current reference output IREFn (R111). -/
def LightChannel.reference (c : LightChannel) : Nat :=
  match c.firing with
  | some f => f.current
  | none => 0

/-- The Light Channel Unit: eight channels and the duty timer (R115). -/
structure LightUnit where
  channels : Octet LightChannel
  dutyTimer : Option Nat
  deriving DecidableEq, Repr

/-! ### Run Controller (03_run_control_and_triggers.md) -/

/-- Run states (R45). -/
inductive RunState where
  | idle | armed | delaying | running | finishing | paused
  deriving DecidableEq, Repr

/-- Start sources (section 3.2). -/
inductive StartSource where
  | command | trigEdge | trigGate
  deriving DecidableEq, Repr

/-- Cycle sources (section 3.2). -/
inductive CycleSource where
  | pacer | encoder | trig | command
  deriving DecidableEq, Repr

/-- Stop sources (section 3.2). -/
inductive StopSource where
  | command | trigEdge | count | never
  deriving DecidableEq, Repr

/-- Stop kinds (R62), `never` for none. -/
inductive StopKind where
  | never | halt | trigEdge | count | gate | fault
  deriving DecidableEq, Repr

/-- The run setup (section 3.2). `repeats` is yes for REPEAT, no for SINGLE. -/
structure RunSetup where
  startSource : StartSource
  cycleSource : CycleSource
  stopSource : StopSource
  stopCount : Nat
  delay : Nat
  afterCount : Nat
  repeats : Bool
  pacerPeriod : Nat
  encoderSpan : Nat
  polarity : Polarity
  auxIdle : Byte
  faultHalts : Bool
  deriving DecidableEq, Repr

/-- The Run Controller (section 3.1). The pacer holds its time to expiry while it runs. -/
structure RunController where
  state : RunState
  setup : RunSetup
  delayLeft : Nat
  afterLeft : Nat
  stopKind : StopKind
  cycleCount : Nat
  missed : Nat
  pacer : Option Nat
  encoder : Nat
  deriving DecidableEq, Repr

/-! ### Line Lock Unit (04_line_lock.md) -/

/-- The hold of a cycle (section 4.1). -/
inductive Hold where
  | none
  | edge
  | phase (timeLeft : Nat)
  deriving DecidableEq, Repr

/-- The four fields of LOCK_SETUP (R71); timeout in ms, phase in µs. -/
structure LockSetup where
  enable : Bool
  polarity : Polarity
  timeout : Nat
  phase : Nat
  deriving DecidableEq, Repr

/-- The Line Lock Unit (section 4.1). -/
structure LineLock where
  setup : LockSetup
  syncOk : Bool
  watch : Option Nat
  hold : Hold
  deriving DecidableEq, Repr

/-! ### Stage Unit (07_staging_banks.md) -/

/-- Bank states (R128). -/
inductive BankState where
  | empty | opened | ready | pending
  deriving DecidableEq, Repr

/-- One captured command: its code and its payload as received (R126). -/
structure StageRecord where
  code : Byte
  payload : List Byte
  deriving DecidableEq, Repr

/-- A bank: its state and its records in capture order (R126). -/
structure Bank where
  state : BankState
  records : List StageRecord
  deriving DecidableEq, Repr

/-- The bank layout; start0 is always 0 (R127). -/
structure StageLayout where
  start1 : Nat
  start2 : Nat
  start3 : Nat
  deriving DecidableEq, Repr

/-- The alternation record (section 7.6). `dueB` is yes when the due bank is b. -/
structure Alternation where
  a : Fin 4
  b : Fin 4
  periodA : Nat
  periodB : Nat
  repeats : Bool
  dueB : Bool
  remaining : Nat
  deriving DecidableEq, Repr

/-- The Stage Unit (section 7.1). The 64 slots are held as the banks' record lists. -/
structure StageUnit where
  layout : StageLayout
  banks : Quad Bank
  alternation : Option Alternation
  deriving DecidableEq, Repr

/-! ### Result Queue (08_the_result_queue.md) -/

/-- A result record (R33, R148). -/
structure ResultRecord where
  cycle : Nat
  position : Nat
  entry : Nat
  readings : Quad Nat
  markers : LineSet
  fired : LightSet
  clipped : LightSet
  cut : LightSet
  unlocked : Bool
  test : Bool
  baseline : Bool
  fixed : Bool
  deriving DecidableEq, Repr

/-- The Result Queue, oldest record first (section 8.1). -/
structure ResultQueue where
  records : List ResultRecord
  lost : Nat
  threshold : Nat
  deriving DecidableEq, Repr

/-! ### Link Port (09_the_link_port.md) -/

/-- The receive state, with the bytes taken after the start byte, oldest first (R158). -/
inductive Receiver where
  | hunting
  | assembling (got : List Byte)
  deriving DecidableEq, Repr

/-- The executor: idle, or holding a RESET FULL until its reply is sent (R171). -/
inductive Executor where
  | idle
  | holding
  deriving DecidableEq, Repr

/-- The Link Port (section 9.1). Queues hold their oldest frame first; `sending` is the bytes of the
frame in transmission. -/
structure LinkPort where
  receiver : Receiver
  waitIdle : Bool
  gapTimer : Option Nat
  commands : List Frame
  executor : Executor
  replies : List Frame
  reports : List Frame
  sending : Option (List Byte)
  mask : Byte
  linkErrors : Nat
  framesDropped : Nat
  reportsLost : Nat
  deriving DecidableEq, Repr

/-! ### Supply Controller (10_driver_supply_and_standby.md) -/

/-- Supply modes (R174). -/
inductive SupplyMode where
  | standby | waking | operate
  deriving DecidableEq, Repr

/-- The Supply Controller (section 10.1); settle in ms. -/
structure SupplyController where
  mode : SupplyMode
  settle : Nat
  wakeOnTrigger : Bool
  settleTimer : Option Nat
  supen : Bool
  deriving DecidableEq, Repr

/-! ### The whole block -/

/-- The cause of a full reset (R167). -/
inductive ResetCause where
  | power | pin | command
  deriving DecidableEq, Repr

/-- The levels of the input pins that the part reads as levels: TRIG (R51, R56), the fault lines, where 1 is
active (R117), and the photocurrents into S0 to S3, in nA, which the outside sets between steps (R28; log
entry 10). -/
structure Pins where
  trigHigh : Bool
  faultLines : LightSet
  photocurrents : Quad Nat
  deriving DecidableEq, Repr

/-- The state of the block. `resetCause` is the cause while the part is in reset, none otherwise
(R172); `pending` is the queue of commands that wait, oldest first. -/
structure State where
  table : ShotTable
  seq : Sequencer
  sense : SenseFrontEnd
  regs : Octet Regulator
  lights : LightUnit
  run : RunController
  lock : LineLock
  stage : StageUnit
  results : ResultQueue
  link : LinkPort
  supply : SupplyController
  pins : Pins
  resetCause : Option ResetCause
  pending : List Instr
  deriving DecidableEq, Repr

/-- Result count (08_the_result_queue.md section 8.1). -/
def ResultQueue.count (q : ResultQueue) : Nat := q.records.length

/-! ### Values after a full reset -/

/-- Shot Table after a full reset (R20). -/
def ShotTable.reset : ShotTable := ⟨[], 0⟩

/-- No cycle flag set. -/
def CycleFlags.clear : CycleFlags := ⟨false, false, false, false, false⟩

/-- Shot Sequencer after a full reset (section 2.1, R44). -/
def Sequencer.reset : Sequencer :=
  { state := .quiet, shot := none, cursor := 0, cycleNumber := 0, position := 0, shotsRun := 0,
    missedDuring := 0, flags := CycleFlags.clear, lastEntry := false, cameras := 0, aux := 0 }

/-- Sense Front End after a full reset (section 2.5). -/
def SenseFrontEnd.reset : SenseFrontEnd :=
  { integrators := ⟨0, 0, 0, 0⟩, integrating := false, readings := ⟨0, 0, 0, 0⟩, baselines := ⟨0, 0, 0, 0⟩ }

/-- Regulator record after a full reset (R81). -/
def Regulator.reset : Regulator :=
  { mode := .manual, state := .manual, duration := 100, current := 256,
    limits := { durMin := 1, durCeiling := 2000, curFloor := 64, curCeiling := 1023, durStep := 10,
                curStep := 16, ratio := 0, bandStep := 0 },
    bands := { fastLow := 8000, leaveLow := 24000, enterLow := 28000, enterHigh := 36000,
               leaveHigh := 40000, fastHigh := 56000, weights := ⟨4, 4, 4, 4⟩ },
    sum := 0, count := 0, lastFigure := none, clipped := false }

/-- Light channel after a full reset with its fault line inactive (R110, R125). -/
def LightChannel.reset : LightChannel :=
  { heat := 0, heatLimit := 200000, coolRate := 100, faulted := false, firing := none }

/-- Run setup after a full reset (section 3.2). -/
def RunSetup.reset : RunSetup :=
  { startSource := .command, cycleSource := .pacer, stopSource := .command, stopCount := 1, delay := 0,
    afterCount := 0, repeats := false, pacerPeriod := 10000, encoderSpan := 100, polarity := .rising,
    auxIdle := 0, faultHalts := false }

/-- Run Controller after a full reset (R70). -/
def RunController.reset : RunController :=
  { state := .idle, setup := RunSetup.reset, delayLeft := 0, afterLeft := 0, stopKind := .never,
    cycleCount := 0, missed := 0, pacer := none, encoder := 100 }

/-- Line Lock Unit after a full reset (R80). -/
def LineLock.reset : LineLock :=
  { setup := { enable := false, polarity := .rising, timeout := 25, phase := 0 }, syncOk := false,
    watch := none, hold := .none }

/-- Stage Unit after a full reset (R146). -/
def StageUnit.reset : StageUnit :=
  { layout := ⟨16, 32, 48⟩, banks := ⟨⟨.empty, []⟩, ⟨.empty, []⟩, ⟨.empty, []⟩, ⟨.empty, []⟩⟩,
    alternation := none }

/-- Result Queue after a full reset (R157). -/
def ResultQueue.reset : ResultQueue := ⟨[], 0, 64⟩

/-- Link Port at a full reset, before the READY report is raised (R172). The mask 0x4D has RUN_STATE,
FAULT, SYNC and SUPPLY on (11_message_layouts.md section 11.4). -/
def LinkPort.reset : LinkPort :=
  { receiver := .hunting, waitIdle := false, gapTimer := none, commands := [], executor := .idle,
    replies := [], reports := [], sending := none, mask := 0x4D, linkErrors := 0, framesDropped := 0,
    reportsLost := 0 }

/-- Supply Controller after a full reset (R181). -/
def SupplyController.reset : SupplyController :=
  { mode := .standby, settle := 20, wakeOnTrigger := false, settleTimer := none, supen := false }

/-- Every light channel at its full-reset value, with the duty timer as given. -/
def LightUnit.reset (duty : Option Nat) : LightUnit :=
  { channels := Octet.ofFn fun _ => LightChannel.reset, dutyTimer := duty }

/-- The READY report of a full reset by power-on: report code 0xF0, tag 0, cause POWER (R167). -/
def readyPower : Frame := ⟨0xF0#8, 0#8, [1#8]⟩

/-- The machine right after reset: the state at the completion of a power-on reset whose fault lines are
inactive, TRIG low and no photocurrent (DESIGN CHOICE for the input pins, log entry 2, unsafe). The duty timer has
started (R115), and the READY report (R167) is already with the transmitter, which was idle (R164;
DEDUCED, log entry 1, safe). -/
def State.reset : State :=
  { table := ShotTable.reset
    seq := Sequencer.reset
    sense := SenseFrontEnd.reset
    regs := Octet.ofFn fun _ => Regulator.reset
    lights := LightUnit.reset (some 1000)
    run := RunController.reset
    lock := LineLock.reset
    stage := StageUnit.reset
    results := ResultQueue.reset
    link := { LinkPort.reset with sending := some (frameBytes readyPower) }
    supply := SupplyController.reset
    pins := { trigHigh := false, faultLines := 0, photocurrents := ⟨0, 0, 0, 0⟩ }
    resetCause := none
    pending := [] }

end Sys2Proof.Machine
end

