-- ==== Sys2Proof/Machine/Codes.lean ====
section
/-!
DEFINITION. The codes of commands, reports, statuses and enumerated fields (11_message_layouts.md sections
11.3 and 11.4), and their decoding: a byte that names nothing decodes to none (R183).
-/

namespace Sys2Proof.Machine

/-- The commands that codes name (section 11.3.1). -/
inductive Command where
  | identify | status | reportMask | reset
  | shotPut | shotGet | seqSelect | tableClear
  | fire | senseSet | senseGet
  | runSetup | start | cycle | halt | abort
  | lockSetup
  | regMode | regForce | regBands | regLimits | regGet
  | lightDuty | lightGet | faultClear
  | stageOpen | stageClose | stageLaunch | stageDrop | stageLayout | stageAlternate | stageGet
  | resultRead | resultFlush | resultThreshold
  | standby | wake | supplySetup
  deriving DecidableEq, Repr

/-- A command's code (section 11.3.1). -/
def commandCode (c : Command) : Byte :=
  match c with
  | .identify => 0x01#8
  | .status => 0x02#8
  | .reportMask => 0x03#8
  | .reset => 0x04#8
  | .shotPut => 0x10#8
  | .shotGet => 0x11#8
  | .seqSelect => 0x12#8
  | .tableClear => 0x13#8
  | .fire => 0x18#8
  | .senseSet => 0x19#8
  | .senseGet => 0x1A#8
  | .runSetup => 0x20#8
  | .start => 0x21#8
  | .cycle => 0x22#8
  | .halt => 0x23#8
  | .abort => 0x24#8
  | .lockSetup => 0x28#8
  | .regMode => 0x30#8
  | .regForce => 0x31#8
  | .regBands => 0x32#8
  | .regLimits => 0x33#8
  | .regGet => 0x34#8
  | .lightDuty => 0x38#8
  | .lightGet => 0x39#8
  | .faultClear => 0x3A#8
  | .stageOpen => 0x40#8
  | .stageClose => 0x41#8
  | .stageLaunch => 0x42#8
  | .stageDrop => 0x43#8
  | .stageLayout => 0x44#8
  | .stageAlternate => 0x45#8
  | .stageGet => 0x46#8
  | .resultRead => 0x48#8
  | .resultFlush => 0x49#8
  | .resultThreshold => 0x4A#8
  | .standby => 0x50#8
  | .wake => 0x51#8
  | .supplySetup => 0x52#8

/-- Every command, in the order of their codes. -/
def allCommands : List Command :=
  [.identify, .status, .reportMask, .reset, .shotPut, .shotGet, .seqSelect, .tableClear, .fire, .senseSet,
   .senseGet, .runSetup, .start, .cycle, .halt, .abort, .lockSetup, .regMode, .regForce, .regBands,
   .regLimits, .regGet, .lightDuty, .lightGet, .faultClear, .stageOpen, .stageClose, .stageLaunch,
   .stageDrop, .stageLayout, .stageAlternate, .stageGet, .resultRead, .resultFlush, .resultThreshold,
   .standby, .wake, .supplySetup]

/-- The command a code names, none for a code that names no command (R162). -/
def commandOfCode (code : Byte) : Option Command :=
  allCommands.find? fun c => commandCode c == code

/-- The seven stageable commands (R130). -/
def isStageable (c : Command) : Bool :=
  match c with
  | .shotPut | .seqSelect | .regMode | .regForce | .regBands | .regLimits | .lightDuty => true
  | _ => false

/-- Reply statuses (R162). -/
inductive Status where
  | ok | staged | unknown | badLength | badValue | busy | notReady | noSequence | bankFull | bankState
  | stillActive
  deriving DecidableEq, Repr

/-- A status's code (section 11.3.2). -/
def statusCode (s : Status) : Byte :=
  match s with
  | .ok => 0#8
  | .staged => 1#8
  | .unknown => 2#8
  | .badLength => 3#8
  | .badValue => 4#8
  | .busy => 5#8
  | .notReady => 6#8
  | .noSequence => 7#8
  | .bankFull => 8#8
  | .bankState => 9#8
  | .stillActive => 10#8

/-- The seven maskable report kinds (R166). READY is not among them (R167). -/
inductive ReportKind where
  | runState | cycleDone | fault | sync | stageApplied | resultsReady | supply
  deriving DecidableEq, Repr

/-- A report's code (section 11.3.2). -/
def reportCode (k : ReportKind) : Byte :=
  match k with
  | .runState => 0xF1#8
  | .cycleDone => 0xF2#8
  | .fault => 0xF3#8
  | .sync => 0xF4#8
  | .stageApplied => 0xF5#8
  | .resultsReady => 0xF6#8
  | .supply => 0xF7#8

/-- A report kind's bit in the REPORT_MASK byte (section 11.4). -/
def reportBit (k : ReportKind) : Nat :=
  match k with
  | .runState => 0
  | .cycleDone => 1
  | .fault => 2
  | .sync => 3
  | .stageApplied => 4
  | .resultsReady => 5
  | .supply => 6

/-- The cause field of READY (section 11.4). -/
def resetCauseCode (c : ResetCause) : Byte :=
  match c with
  | .power => 1#8
  | .pin => 2#8
  | .command => 3#8

/-- yes and no (section 11.4). -/
def boolCode (b : Bool) : Byte := if b then 1#8 else 0#8

/-- Decoding of yes and no. -/
def boolOf (n : Nat) : Option Bool :=
  match n with
  | 0 => some false
  | 1 => some true
  | _ => none

/-- Decoding of a polarity. -/
def polarityOf (n : Nat) : Option Polarity :=
  match n with
  | 0 => some .rising
  | 1 => some .falling
  | _ => none

def polarityCode (p : Polarity) : Byte :=
  match p with
  | .rising => 0#8
  | .falling => 1#8

/-- Decoding of a start source. -/
def startSourceOf (n : Nat) : Option StartSource :=
  match n with
  | 0 => some .command
  | 1 => some .trigEdge
  | 2 => some .trigGate
  | _ => none

def startSourceCode (s : StartSource) : Byte :=
  match s with
  | .command => 0#8
  | .trigEdge => 1#8
  | .trigGate => 2#8

/-- Decoding of a cycle source. -/
def cycleSourceOf (n : Nat) : Option CycleSource :=
  match n with
  | 0 => some .pacer
  | 1 => some .encoder
  | 2 => some .trig
  | 3 => some .command
  | _ => none

def cycleSourceCode (s : CycleSource) : Byte :=
  match s with
  | .pacer => 0#8
  | .encoder => 1#8
  | .trig => 2#8
  | .command => 3#8

/-- Decoding of a stop source. -/
def stopSourceOf (n : Nat) : Option StopSource :=
  match n with
  | 0 => some .command
  | 1 => some .trigEdge
  | 2 => some .count
  | 3 => some .never
  | _ => none

def stopSourceCode (s : StopSource) : Byte :=
  match s with
  | .command => 0#8
  | .trigEdge => 1#8
  | .count => 2#8
  | .never => 3#8

def runStateCode (s : RunState) : Byte :=
  match s with
  | .idle => 0#8
  | .armed => 1#8
  | .delaying => 2#8
  | .running => 3#8
  | .finishing => 4#8
  | .paused => 5#8

def seqStateCode (s : SeqState) : Byte :=
  match s with
  | .quiet => 0#8
  | .waitSync => 1#8
  | .shooting => 2#8
  | .suspended => 3#8
  | .testing => 4#8

def supplyModeCode (m : SupplyMode) : Byte :=
  match m with
  | .standby => 0#8
  | .waking => 1#8
  | .operate => 2#8

def bankStateCode (s : BankState) : Byte :=
  match s with
  | .empty => 0#8
  | .opened => 1#8
  | .ready => 2#8
  | .pending => 3#8

/-- Decoding of a regulator mode (R101). -/
def regModeOf (n : Nat) : Option RegMode :=
  match n with
  | 0 => some .off
  | 1 => some .manual
  | 2 => some .auto
  | _ => none

def regModeCode (m : RegMode) : Byte :=
  match m with
  | .off => 0#8
  | .manual => 1#8
  | .auto => 2#8

def regStateCode (s : RegState) : Byte :=
  match s with
  | .off => 0#8
  | .manual => 1#8
  | .converging => 2#8
  | .stable => 3#8
  | .satHigh => 4#8
  | .satLow => 5#8

/-- The causes of RUN_STATE (R69). -/
inductive RunCause where
  | arm | start | delayDone | pause | resume | stop | runEnd | disarm | abort | reset
  deriving DecidableEq, Repr

def runCauseCode (c : RunCause) : Byte :=
  match c with
  | .arm => 0#8
  | .start => 1#8
  | .delayDone => 2#8
  | .pause => 3#8
  | .resume => 4#8
  | .stop => 5#8
  | .runEnd => 6#8
  | .disarm => 7#8
  | .abort => 8#8
  | .reset => 9#8

def stopKindCode (k : StopKind) : Byte :=
  match k with
  | .never => 0#8
  | .halt => 1#8
  | .trigEdge => 2#8
  | .count => 3#8
  | .gate => 4#8
  | .fault => 5#8

/-- The causes of SUPPLY (R180). -/
inductive SupplyCause where
  | standby | wake | trigger | settle
  deriving DecidableEq, Repr

def supplyCauseCode (c : SupplyCause) : Byte :=
  match c with
  | .standby => 0#8
  | .wake => 1#8
  | .trigger => 2#8
  | .settle => 3#8

/-- The outcomes of a cycle-source event, as CYCLE replies with them (R61). -/
inductive CycleOutcome where
  | ignored | delay | accepted | missed
  deriving DecidableEq, Repr

def cycleOutcomeCode (o : CycleOutcome) : Byte :=
  match o with
  | .ignored => 0#8
  | .delay => 1#8
  | .accepted => 2#8
  | .missed => 3#8

end Sys2Proof.Machine
end

