-- ==== Sys2Proof/WellFormed.lean ====
section
/-!
DEFINITION. Which terms of Instr stand for something the link can carry. Every other field of a command
has a type that holds exactly its values.
-/

namespace Sys2Proof

/-- The frame of a host command, when the term is one (section 11.3.1); none for an event. -/
def Instr.hostFrame (i : Instr) : Option Machine.Frame :=
  match i with
  | .identify tag p => some ⟨0x01#8, tag, p⟩
  | .status tag p => some ⟨0x02#8, tag, p⟩
  | .reportMask tag p => some ⟨0x03#8, tag, p⟩
  | .resetRun tag => some ⟨0x04#8, tag, [1#8]⟩
  | .resetFull tag => some ⟨0x04#8, tag, [2#8]⟩
  | .unknownCode code tag p => some ⟨code, tag, p⟩
  | .shotPut tag p => some ⟨0x10#8, tag, p⟩
  | .shotGet tag p => some ⟨0x11#8, tag, p⟩
  | .seqSelect tag p => some ⟨0x12#8, tag, p⟩
  | .tableClear tag p => some ⟨0x13#8, tag, p⟩
  | .fire tag p => some ⟨0x18#8, tag, p⟩
  | .senseSet tag p => some ⟨0x19#8, tag, p⟩
  | .senseGet tag p => some ⟨0x1A#8, tag, p⟩
  | .runSetup tag p => some ⟨0x20#8, tag, p⟩
  | .start tag p => some ⟨0x21#8, tag, p⟩
  | .cycle tag p => some ⟨0x22#8, tag, p⟩
  | .halt tag p => some ⟨0x23#8, tag, p⟩
  | .abort tag p => some ⟨0x24#8, tag, p⟩
  | .lockSetup tag p => some ⟨0x28#8, tag, p⟩
  | .regMode tag p => some ⟨0x30#8, tag, p⟩
  | .regForce tag p => some ⟨0x31#8, tag, p⟩
  | .regBands tag p => some ⟨0x32#8, tag, p⟩
  | .regLimits tag p => some ⟨0x33#8, tag, p⟩
  | .regGet tag p => some ⟨0x34#8, tag, p⟩
  | .lightDuty tag p => some ⟨0x38#8, tag, p⟩
  | .lightGet tag p => some ⟨0x39#8, tag, p⟩
  | .faultClear tag p => some ⟨0x3A#8, tag, p⟩
  | .stageOpen tag p => some ⟨0x40#8, tag, p⟩
  | .stageClose tag p => some ⟨0x41#8, tag, p⟩
  | .stageLaunch tag p => some ⟨0x42#8, tag, p⟩
  | .stageDrop tag p => some ⟨0x43#8, tag, p⟩
  | .stageLayout tag p => some ⟨0x44#8, tag, p⟩
  | .stageAlternate tag p => some ⟨0x45#8, tag, p⟩
  | .stageGet tag p => some ⟨0x46#8, tag, p⟩
  | .resultRead tag p => some ⟨0x48#8, tag, p⟩
  | .resultFlush tag p => some ⟨0x49#8, tag, p⟩
  | .resultThreshold tag p => some ⟨0x4A#8, tag, p⟩
  | .standby tag p => some ⟨0x50#8, tag, p⟩
  | .wake tag p => some ⟨0x51#8, tag, p⟩
  | .supplySetup tag p => some ⟨0x52#8, tag, p⟩
  | .frameReceived _ => none
  | .byteReceived _ => none
  | .framingError _ => none
  | .gapTimerExpiry => none
  | .lineReturnToIdle => none
  | .frameSent => none
  | .fullReset => none
  | .powerOn => none
  | .rstnLow => none
  | .resetCompletion => none
  | .pacerExpiry => none
  | .encEdge => none
  | .encoderCounterZero => none
  | .trigActiveEdge => none
  | .trigInactiveEdge => none
  | .syncEdge _ => none
  | .watchExpiry => none
  | .phaseDelayEnd => none
  | .flashStart => none
  | .firingEnd _ => none
  | .flashEnd _ _ => none
  | .tailEnd => none
  | .gapEnd => none
  | .dutyTimerExpiry => none
  | .faultArrival _ => none
  | .settleExpiry => none
  | .faultLineReturnToInactive _ => none

/-- The bytes are one frame as R158 delimits it: a start byte and a LEN; then, when LEN is 2 to 252,
exactly LEN bytes and CHECK, and nothing more when LEN is bad (the frame ends there). -/
def isWholeFrame (bytes : List Byte) : Bool :=
  match bytes with
  | start :: len :: rest =>
    start == Machine.startByte &&
      (if 2 ≤ len.toNat ∧ len.toNat ≤ 252 then rest.length == len.toNat + 1 else rest.isEmpty)
  | _ => false

/-- A host command's payload fits a frame (09_the_link_port.md section 9.2), an unknown code names no
command (R162), and FRAME_RECEIVED carries one whole frame (R158). -/
def Instr.wellFormed (i : Instr) : Bool :=
  match i with
  | .unknownCode c _ p => (Machine.commandOfCode c).isNone && decide (p.length ≤ Config.payloadCapacity)
  | .frameReceived bytes => isWholeFrame bytes
  | _ =>
    match i.hostFrame with
    | some f => decide (f.payload.length ≤ Config.payloadCapacity)
    | none => true

end Sys2Proof
end

