-- ==== Sys2Proof/Decode.lean ====
section
/-!
DEFINITION. decodeTableWord: no row of spec/opcode_table.json gives bits, so no word spells a command.
What the link carries is decoded from bytes: the receiver of Machine/LinkPort.lean, the codes of
Machine/Codes.lean and the payload layouts of Machine/Operands.lean.
-/

namespace Sys2Proof

/-- The command that a word spells by the opcode table's bits: none for every word, since the table gives
no row any bits. -/
def decodeTableWord (_nbits _w : Nat) : Option Instr := none

end Sys2Proof
end

