-- ==== Sys2Proof/Machine/Flags.lean ====
section
/-!
DEFINITION. Sets and flag bytes (R183, 11_message_layouts.md section 11.5): building a set from its
members, adding a member, and the flag bytes of a result record, of CYCLE_DONE and of the bank states.
-/

namespace Sys2Proof.Machine

/-- The byte whose bit n is `f n` (R183). -/
def lightsWhere (f : Light → Bool) : LightSet :=
  (bif f 0 then 0x01#8 else 0#8) ||| (bif f 1 then 0x02#8 else 0#8) |||
  (bif f 2 then 0x04#8 else 0#8) ||| (bif f 3 then 0x08#8 else 0#8) |||
  (bif f 4 then 0x10#8 else 0#8) ||| (bif f 5 then 0x20#8 else 0#8) |||
  (bif f 6 then 0x40#8 else 0#8) ||| (bif f 7 then 0x80#8 else 0#8)

/-- Light `i` is a member of the set. -/
def hasLight (s : LightSet) (i : Light) : Bool := s.getLsbD i.val

/-- The set with light `i` added. -/
def addLight (s : LightSet) (i : Light) : LightSet :=
  lightsWhere fun j => j == i || hasLight s j

/-- The set without light `i`. -/
def dropLight (s : LightSet) (i : Light) : LightSet :=
  lightsWhere fun j => j != i && hasLight s j

/-- Bit `n` of a flag byte: its weight when the flag is set. -/
def flagBit (b : Bool) (weight : Byte) : Byte := bif b then weight else 0#8

/-- The flags byte of CYCLE_DONE (section 11.5.3). -/
def cycleFlagsByte (f : CycleFlags) : Byte :=
  flagBit f.short 0x01#8 ||| flagBit f.aborted 0x02#8 ||| flagBit f.unlocked 0x04#8 |||
  flagBit f.lost 0x08#8 ||| flagBit f.clipped 0x10#8

/-- The flags byte of a result record (section 11.5.2). -/
def recordFlagsByte (r : ResultRecord) : Byte :=
  flagBit r.unlocked 0x01#8 ||| flagBit r.test 0x02#8 ||| flagBit r.baseline 0x04#8 |||
  flagBit r.fixed 0x08#8

/-- The flags byte of a shot entry, with the presence of regulate and override (section 11.5.1). -/
def entryFlagsByte (e : ShotEntry) : Byte :=
  flagBit e.skip 0x01#8 ||| flagBit e.pause 0x02#8 ||| flagBit e.endFlag 0x04#8 |||
  flagBit e.baseline 0x08#8 ||| flagBit e.regulate.isSome 0x10#8 ||| flagBit e.fixed.isSome 0x20#8

/-- The bank states byte of STATUS: two bits for each bank, B0 lowest (section 11.5.4). -/
def bankStatesByte (b : Quad Bank) : Byte :=
  bankStateCode b.q0.state ||| (bankStateCode b.q1.state <<< 2) |||
  (bankStateCode b.q2.state <<< 4) ||| (bankStateCode b.q3.state <<< 6)

/-- The lights whose regulator is STABLE (R40). -/
def stableSet (regs : Octet Regulator) : LightSet :=
  lightsWhere fun i => (regs.get i).state == .stable

/-- The lights whose regulator is SAT_HIGH or SAT_LOW (R40). -/
def saturatedSet (regs : Octet Regulator) : LightSet :=
  lightsWhere fun i => (regs.get i).state == .satHigh || (regs.get i).state == .satLow

/-- The lights whose faulted is yes (R169). -/
def faultedSet (channels : Octet LightChannel) : LightSet :=
  lightsWhere fun i => (channels.get i).faulted

end Sys2Proof.Machine
end

