-- ==== Sys2Proof/Machine/Operands.lean ====
section
/-!
DEFINITION. The operand forms: the payload of every command, decoded by the layout of its code with the
length, encoding and range checks that depend on the payload alone (R162 steps 2 and 3, R183), and the
byte layouts the part sends. Multi-byte fields are little-endian.
-/

namespace Sys2Proof.Machine

/-! ### Bytes and numbers -/

/-- The byte at offset `i`, as a number. -/
def byteAt (p : List Byte) (i : Nat) : Nat := (p.getD i 0#8).toNat

/-- The 2-byte field at offset `i`. -/
def word16At (p : List Byte) (i : Nat) : Nat := byteAt p i + 256 * byteAt p (i + 1)

/-- The 4-byte field at offset `i`. -/
def word32At (p : List Byte) (i : Nat) : Nat := word16At p i + 65536 * word16At p (i + 2)

/-- A 1-byte field. -/
def le1 (n : Nat) : List Byte := [BitVec.ofNat 8 n]

/-- A 2-byte field. -/
def le2 (n : Nat) : List Byte := [BitVec.ofNat 8 n, BitVec.ofNat 8 (n / 256)]

/-- A 4-byte field. -/
def le4 (n : Nat) : List Byte := le2 n ++ le2 (n / 65536)

/-- Four 2-byte fields. -/
def quad2 (q : Quad Nat) : List Byte := le2 q.q0 ++ le2 q.q1 ++ le2 q.q2 ++ le2 q.q3

/-- Four 1-byte fields. -/
def quad1 (q : Quad Nat) : List Byte := le1 q.q0 ++ le1 q.q1 ++ le1 q.q2 ++ le1 q.q3

/-- The four 2-byte fields from offset `i`. -/
def quad2At (p : List Byte) (i : Nat) : Quad Nat :=
  ⟨word16At p i, word16At p (i + 2), word16At p (i + 4), word16At p (i + 6)⟩

/-- The light a number names, none from 8 up. -/
def lightOf (n : Nat) : Option Light := if h : n < 8 then some ⟨n, h⟩ else none

/-- The bank a number names, none from 4 up. -/
def bankOf (n : Nat) : Option (Fin 4) := if h : n < 4 then some ⟨n, h⟩ else none

/-- A light's number as a byte. -/
def lightCode (l : Light) : Byte := BitVec.ofNat 8 l.val

/-- A bank's number as a byte. -/
def bankCode (b : Fin 4) : Byte := BitVec.ofNat 8 b.val

/-- The length check comes before every value check (R162, R183): a payload of length `n` gives the
value decoded from it or BAD_VALUE, any other BAD_LENGTH. -/
def sized {α : Type} (n : Nat) (p : List Byte) (v : Option α) : Except Status α :=
  if p.length = n then
    match v with
    | some a => .ok a
    | none => .error .badValue
  else .error .badLength

/-- `v` when the check holds. -/
def checked {α : Type} (ok : Bool) (v : α) : Option α := bif ok then some v else none

/-! ### Shot entry (section 11.5.1, R9) -/

/-- Entry record of 19 bytes; none for an undefined encoding (R183). -/
def entryOf (b : List Byte) : Option ShotEntry :=
  let flags := b.getD 3 0#8
  let cameras := byteAt b 1
  let light := byteAt b 4
  let current := word16At b 15
  let duration := word16At b 17
  let regulated := flags.getLsbD 4
  let overridden := flags.getLsbD 5
  checked
    (decide (cameras < 16) && decide (flags.toNat < 64) &&
      (if regulated then decide (light < 8) else decide (light = 0)) &&
      (overridden || (decide (current = 0) && decide (duration = 0))))
    { lights := b.getD 0 0#8
      cameras := BitVec.ofNat 4 cameras
      lead := word16At b 5
      window := word16At b 7
      tail := word16At b 9
      gap := word32At b 11
      aux := b.getD 2 0#8
      regulate := if regulated then lightOf light else none
      fixed := if overridden then some ⟨current, duration⟩ else none
      skip := flags.getLsbD 0
      pause := flags.getLsbD 1
      endFlag := flags.getLsbD 2
      baseline := flags.getLsbD 3 }

/-- The checks of R9 on the values of an entry. -/
def entryValid (e : ShotEntry) : Bool :=
  decide (e.lead ≤ 5000) && decide (1 ≤ e.window) && decide (e.window ≤ 20000) &&
  decide (e.tail ≤ 5000) && decide (20 ≤ e.gap) && decide (e.gap ≤ 1000000) &&
  (match e.fixed with
   | some o => decide (o.current ≤ 1023) && decide (1 ≤ o.duration) && decide (o.duration ≤ 20000) &&
       e.regulate.isNone
   | none => true) &&
  (match e.regulate with
   | some l => hasLight e.lights l
   | none => true) &&
  (!e.baseline || (e.lights == 0#8 && e.regulate.isNone)) &&
  !(e.pause && e.endFlag)

/-- The 19 bytes of an entry (section 11.5.1). -/
def entryBytes (e : ShotEntry) : List Byte :=
  [e.lights, e.cameras.setWidth 8, e.aux, entryFlagsByte e,
   match e.regulate with
   | some l => lightCode l
   | none => 0#8] ++
  le2 e.lead ++ le2 e.window ++ le2 e.tail ++ le4 e.gap ++
  (match e.fixed with
   | some o => le2 o.current ++ le2 o.duration
   | none => le2 0 ++ le2 0)

/-- SHOT_PUT: index and valid entry (R13 checks 1 to 3). -/
def parseShotPut (p : List Byte) : Except Status (Nat × ShotEntry) :=
  sized 20 p <|
    match entryOf (p.drop 1) with
    | some e => checked (decide (byteAt p 0 ≤ 127) && entryValid e) (byteAt p 0, e)
    | none => none

/-- A payload of one byte whose range the command's own rule checks later (SHOT_GET, FIRE). -/
def parseIndex (p : List Byte) : Except Status Nat :=
  sized 1 p (some (byteAt p 0))

/-- SEQ_SELECT: the start (R17 checks 1 and 2). -/
def parseSeqSelect (p : List Byte) : Except Status Nat :=
  sized 1 p (checked (decide (byteAt p 0 ≤ 127)) (byteAt p 0))

/-- A command without parameters. -/
def parseNothing (p : List Byte) : Except Status Unit :=
  sized 0 p (some ())

/-- SENSE_SET: four baselines (R29). -/
def parseSenseSet (p : List Byte) : Except Status (Quad Nat) :=
  sized 8 p (some (quad2At p 0))

/-! ### Run setup (section 3.2, R46, R47) -/

/-- Two combinations of sources are refused (R47). -/
def sourcesAllowed (s : RunSetup) : Bool :=
  !(s.cycleSource == .trig && (s.startSource == .trigEdge || s.startSource == .trigGate)) &&
  !(s.stopSource == .trigEdge && s.startSource == .trigGate)

/-- The ranges of the run setup (section 3.2). -/
def setupInRange (s : RunSetup) : Bool :=
  decide (1 ≤ s.stopCount) && decide (100 ≤ s.pacerPeriod) && decide (s.pacerPeriod ≤ 2000000) &&
  decide (1 ≤ s.encoderSpan)

/-- RUN_SETUP: all twelve fields (R46 checks 1 to 3). -/
def parseRunSetup (p : List Byte) : Except Status RunSetup :=
  sized 21 p <|
    match startSourceOf (byteAt p 0), cycleSourceOf (byteAt p 1), stopSourceOf (byteAt p 2),
      boolOf (byteAt p 11), polarityOf (byteAt p 18), boolOf (byteAt p 20) with
    | some start, some cyc, some stop, some rep, some pol, some halts =>
      let setup : RunSetup :=
        { startSource := start, cycleSource := cyc, stopSource := stop, stopCount := word32At p 3,
          delay := word16At p 7, afterCount := word16At p 9, repeats := rep,
          pacerPeriod := word32At p 12, encoderSpan := word16At p 16, polarity := pol,
          auxIdle := p.getD 19 0#8, faultHalts := halts }
      checked (setupInRange setup && sourcesAllowed setup) setup
    | _, _, _, _, _, _ => none

/-- The run setup as its reply carries it (R46). -/
def runSetupBytes (s : RunSetup) : List Byte :=
  [startSourceCode s.startSource, cycleSourceCode s.cycleSource, stopSourceCode s.stopSource] ++
  le4 s.stopCount ++ le2 s.delay ++ le2 s.afterCount ++ [boolCode s.repeats] ++ le4 s.pacerPeriod ++
  le2 s.encoderSpan ++ [polarityCode s.polarity, s.auxIdle, boolCode s.faultHalts]

/-! ### Line lock (R71) -/

/-- LOCK_SETUP: enable, polarity, timeout, phase (R71 checks 1 and 2). -/
def parseLockSetup (p : List Byte) : Except Status LockSetup :=
  sized 7 p <|
    match boolOf (byteAt p 0), polarityOf (byteAt p 1) with
    | some en, some pol =>
      checked (decide (1 ≤ byteAt p 2) && decide (byteAt p 2 ≤ 200) && decide (word32At p 3 ≤ 100000))
        { enable := en, polarity := pol, timeout := byteAt p 2, phase := word32At p 3 }
    | _, _ => none

/-- The lock setup as its reply carries it (R71). -/
def lockSetupBytes (s : LockSetup) : List Byte :=
  [boolCode s.enable, polarityCode s.polarity] ++ le1 s.timeout ++ le4 s.phase

/-! ### Regulators (R98 to R105) -/

/-- A payload of one light number (REG_GET, LIGHT_GET, FAULT_CLEAR). -/
def parseLight (p : List Byte) : Except Status Light :=
  sized 1 p (lightOf (byteAt p 0))

/-- REG_MODE: light and mode (R101). -/
def parseRegMode (p : List Byte) : Except Status (Light × RegMode) :=
  sized 2 p <|
    match lightOf (byteAt p 0), regModeOf (byteAt p 1) with
    | some l, some m => some (l, m)
    | _, _ => none

/-- REG_FORCE: light, duration and current (R103 checks 1 and 2). -/
def parseRegForce (p : List Byte) : Except Status (Light × Nat × Nat) :=
  sized 5 p <|
    match lightOf (byteAt p 0) with
    | some l =>
      checked (decide (1 ≤ word16At p 1) && decide (word16At p 1 ≤ 20000) && decide (word16At p 3 ≤ 1023))
        (l, word16At p 1, word16At p 3)
    | none => none

/-- The bounds are ordered and the weights in range (R104). -/
def bandsValid (b : RegBands) : Bool :=
  decide (b.fastLow < b.leaveLow) && decide (b.leaveLow ≤ b.enterLow) && decide (b.enterLow < b.enterHigh) &&
  decide (b.enterHigh ≤ b.leaveHigh) && decide (b.leaveHigh < b.fastHigh) &&
  decide (b.weights.q0 ≤ 15) && decide (b.weights.q1 ≤ 15) && decide (b.weights.q2 ≤ 15) &&
  decide (b.weights.q3 ≤ 15)

/-- REG_BANDS: light, six bounds, four weights (R104). -/
def parseRegBands (p : List Byte) : Except Status (Light × RegBands) :=
  sized 17 p <|
    match lightOf (byteAt p 0) with
    | some l =>
      let b : RegBands :=
        { fastLow := word16At p 1, leaveLow := word16At p 3, enterLow := word16At p 5,
          enterHigh := word16At p 7, leaveHigh := word16At p 9, fastHigh := word16At p 11,
          weights := ⟨byteAt p 13, byteAt p 14, byteAt p 15, byteAt p 16⟩ }
      checked (bandsValid b) (l, b)
    | none => none

/-- The bounds and weights as replies carry them (R99). -/
def bandsBytes (b : RegBands) : List Byte :=
  le2 b.fastLow ++ le2 b.leaveLow ++ le2 b.enterLow ++ le2 b.enterHigh ++ le2 b.leaveHigh ++
  le2 b.fastHigh ++ quad1 b.weights

/-- The conditions of R105 on the eight limits. -/
def limitsValid (m : RegLimits) : Bool :=
  decide (1 ≤ m.durMin) && decide (m.durMin ≤ m.durCeiling) && decide (m.durCeiling ≤ 20000) &&
  decide (m.curFloor ≤ m.curCeiling) && decide (m.curCeiling ≤ 1023) &&
  decide (1 ≤ m.durStep) && decide (m.durStep ≤ 1000) && decide (1 ≤ m.curStep) && decide (m.curStep ≤ 255) &&
  decide (m.ratio ≤ 255) && decide (m.bandStep ≤ 10000) &&
  (decide (m.bandStep = 0) ||
    (decide (m.durMin % m.bandStep = 0) && decide (m.durCeiling % m.bandStep = 0)))

/-- REG_LIMITS: light and eight limits (R105). -/
def parseRegLimits (p : List Byte) : Except Status (Light × RegLimits) :=
  sized 15 p <|
    match lightOf (byteAt p 0) with
    | some l =>
      let m : RegLimits :=
        { durMin := word16At p 1, durCeiling := word16At p 3, curFloor := word16At p 5,
          curCeiling := word16At p 7, durStep := word16At p 9, curStep := byteAt p 11,
          ratio := byteAt p 12, bandStep := word16At p 13 }
      checked (limitsValid m) (l, m)
    | none => none

/-- The limits as replies carry them (R99). -/
def limitsBytes (m : RegLimits) : List Byte :=
  le2 m.durMin ++ le2 m.durCeiling ++ le2 m.curFloor ++ le2 m.curCeiling ++ le2 m.durStep ++
  le1 m.curStep ++ le1 m.ratio ++ le2 m.bandStep

/-! ### Lights, banks, results, supply -/

/-- LIGHT_DUTY: light, heat limit, cooling rate (R116). -/
def parseLightDuty (p : List Byte) : Except Status (Light × Nat × Nat) :=
  sized 7 p <|
    match lightOf (byteAt p 0) with
    | some l =>
      checked (decide (1 ≤ word32At p 1) && decide (word32At p 1 ≤ 4000000))
        (l, word32At p 1, word16At p 5)
    | none => none

/-- A payload of one bank number (STAGE_OPEN, STAGE_LAUNCH, STAGE_DROP). -/
def parseBank (p : List Byte) : Except Status (Fin 4) :=
  sized 1 p (bankOf (byteAt p 0))

/-- STAGE_LAYOUT: three starts (R127 checks 1 and 2). -/
def parseStageLayout (p : List Byte) : Except Status StageLayout :=
  sized 3 p <|
    checked (decide (byteAt p 0 ≤ byteAt p 1) && decide (byteAt p 1 ≤ byteAt p 2) && decide (byteAt p 2 ≤ 64))
      ⟨byteAt p 0, byteAt p 1, byteAt p 2⟩

/-- STAGE_ALTERNATE: none for a clearing command, else the new record (R141 checks 1 to 3, R142). -/
def parseStageAlternate (p : List Byte) : Except Status (Option Alternation) :=
  sized 5 p <|
    match bankOf (byteAt p 0), bankOf (byteAt p 1), boolOf (byteAt p 4) with
    | some a, some b, some rep =>
      if byteAt p 2 = 0 ∧ byteAt p 3 = 0 then some none
      else
        checked (decide (1 ≤ byteAt p 2) && decide (1 ≤ byteAt p 3) && decide (a ≠ b))
          (some { a := a, b := b, periodA := byteAt p 2, periodB := byteAt p 3, repeats := rep,
                  dueB := false, remaining := 0 })
    | _, _, _ => none

/-- The due bank of an alternation record (section 7.6). -/
def dueBank (r : Alternation) : Fin 4 := if r.dueB then r.b else r.a

/-- The alternation record as replies carry it: a presence byte, then the record, all zeros when absent
(R183). -/
def alternationBytes (r : Option Alternation) : List Byte :=
  match r with
  | some r => [1#8, bankCode r.a, bankCode r.b] ++ le1 r.periodA ++ le1 r.periodB ++
      [boolCode r.repeats, bankCode (dueBank r)] ++ le1 r.remaining
  | none => [0#8, 0#8, 0#8, 0#8, 0#8, 0#8, 0#8, 0#8]

/-- RESULT_READ: the number of records (R151). -/
def parseResultRead (p : List Byte) : Except Status Nat :=
  sized 1 p (checked (decide (1 ≤ byteAt p 0) && decide (byteAt p 0 ≤ 12)) (byteAt p 0))

/-- RESULT_THRESHOLD: the threshold (R154). -/
def parseThreshold (p : List Byte) : Except Status Nat :=
  sized 2 p (checked (decide (1 ≤ word16At p 0) && decide (word16At p 0 ≤ 512)) (word16At p 0))

/-- The 19 bytes of a result record (section 11.5.2). -/
def recordBytes (r : ResultRecord) : List Byte :=
  le4 r.cycle ++ le1 r.position ++ le1 r.entry ++ quad2 r.readings ++
  [r.markers.setWidth 8, r.fired, r.clipped, r.cut, recordFlagsByte r]

/-- REPORT_MASK: the mask byte, bit 7 reserved (R166, section 11.4). -/
def parseMask (p : List Byte) : Except Status Byte :=
  sized 1 p (checked (decide (byteAt p 0 < 128)) (p.getD 0 0#8))

/-- The kinds of RESET. -/
inductive ResetKind where
  | run | full
  deriving DecidableEq, Repr

/-- RESET: the kind (section 9.6). -/
def parseReset (p : List Byte) : Except Status ResetKind :=
  sized 1 p <|
    match byteAt p 0 with
    | 1 => some .run
    | 2 => some .full
    | _ => none

/-- SUPPLY_SETUP: settle and wake-on-trigger (R179). -/
def parseSupplySetup (p : List Byte) : Except Status (Nat × Bool) :=
  sized 2 p <|
    match boolOf (byteAt p 1) with
    | some w => checked (decide (1 ≤ byteAt p 0) && decide (byteAt p 0 ≤ 100)) (byteAt p 0, w)
    | none => none

end Sys2Proof.Machine
end

