-- ==== Sys2Proof/Machine/Ops.lean ====
section
/-!
DEFINITION. The named operations that many events share: counting with saturation and wrap, raising a report
(R165), the reply to a taken command (R162, R163), the transmitter's choice of its next frame (R164), a
change of run state (R69), switching lights off (R111) and letting time pass.
-/

namespace Sys2Proof.Machine

/-- A count raised by 1 that stays at `top` once there. -/
def saturate (top n : Nat) : Nat := min (n + 1) top

/-- A 32-bit count raised by 1, wrapping from 4,294,967,295 to 0 (R23, R58). -/
def wrap32 (n : Nat) : Nat := (n + 1) % 4294967296

/-- The top of a 32-bit counter. -/
def top32 : Nat := 4294967295

/-- The top of a 16-bit counter. -/
def top16 : Nat := 65535

/-! ### Reports, replies and the transmitter -/

/-- A report is raised: not queued when its kind is masked off, queued as the newest frame when the
Report Queue has room, else discarded and counted (R165). Report frames carry tag 0. -/
def raise (k : ReportKind) (payload : List Byte) (s : State) : State :=
  if s.link.mask.getLsbD (reportBit k) then
    if s.link.reports.length < Config.reportCapacity then
      { s with link.reports := s.link.reports ++ [⟨reportCode k, 0#8, payload⟩] }
    else { s with link.reportsLost := saturate top16 s.link.reportsLost }
  else s

/-- READY, not subject to the mask (R167). -/
def readyFrame (c : ResetCause) : Frame := ⟨0xF0#8, 0#8, [resetCauseCode c]⟩

/-- What taking a command gives: the state after it, and the payload of its reply, status first. -/
structure Taken where
  state : State
  reply : List Byte
  deriving DecidableEq, Repr

/-- A refused command changes no state; its reply carries the status and nothing more (R162). -/
def refuse (st : Status) (s : State) : Taken := ⟨s, [statusCode st]⟩

/-- An executed command: status OK, then the fields its rule gives (R162). -/
def accept (s : State) (fields : List Byte) : Taken := ⟨s, statusCode .ok :: fields⟩

/-- The reply's code: the command's code plus 128, the received code unchanged from 128 up (R162). -/
def replyCode (code : Byte) : Byte := if code.toNat < 128 then code + 0x80#8 else code

/-- The reply to a command frame: its tag unchanged (R162, R163). -/
def replyFrame (f : Frame) (reply : List Byte) : Frame := ⟨replyCode f.code, f.tag, reply⟩

/-- The reply joins the Reply Queue as its newest frame (R161). -/
def pushReply (f : Frame) (s : State) : State :=
  { s with link.replies := s.link.replies ++ [f] }

/-- The idle transmitter begins to send the oldest reply, or the oldest report when no reply waits; the
frame leaves its queue (R164). -/
def startSend (s : State) : State :=
  match s.link.sending with
  | some _ => s
  | none =>
    match s.link.replies with
    | f :: rest => { s with link.replies := rest, link.sending := some (frameBytes f) }
    | [] =>
      match s.link.reports with
      | f :: rest => { s with link.reports := rest, link.sending := some (frameBytes f) }
      | [] => s

/-! ### Run state -/

/-- The payload of RUN_STATE (R69). The stop kind is carried with STOP and RUN_END only. -/
def runStatePayload (now before : RunState) (cause : RunCause) (s : State) : List Byte :=
  [runStateCode now, runStateCode before, runCauseCode cause] ++ le4 s.seq.cycleNumber ++
  le4 s.run.cycleCount ++ le4 s.run.missed ++
  [if cause = .stop ∨ cause = .runEnd then stopKindCode s.run.stopKind else 0#8]

/-- A change of run state, with its RUN_STATE report (R69). -/
def changeRun (now : RunState) (cause : RunCause) (s : State) : State :=
  raise .runState (runStatePayload now s.run.state cause s) { s with run.state := now }

/-! ### Lights -/

/-- The channel with its light off: gate low, reference 0, no firing (R111). -/
def channelOff (c : LightChannel) : LightChannel := { c with firing := none }

/-- One light is switched off; nothing changes when it is off (R111). -/
def lightOff (l : Light) (s : State) : State :=
  { s with lights.channels := s.lights.channels.set l (channelOff (s.lights.channels.get l)) }

/-- Every light is switched off. -/
def allLightsOff (s : State) : State :=
  { s with lights.channels := s.lights.channels.map channelOff }

/-! ### Pins -/

/-- TRIG stands at its active level (R51). -/
def trigActive (s : State) : Bool :=
  match s.run.setup.polarity with
  | .rising => s.pins.trigHigh
  | .falling => !s.pins.trigHigh

/-- TRIG put at its active level, or at its inactive level (R51). -/
def setTrig (active : Bool) (s : State) : State :=
  { s with pins.trigHigh := (match s.run.setup.polarity with
      | .rising => active
      | .falling => !active) }

/-! ### Integration -/

/-- Charge flows into the integrators; one that would pass full scale stays there (R28). -/
def integrated (charges : Quad Nat) (f : SenseFrontEnd) : SenseFrontEnd :=
  { f with integrators := Quad.ofFn fun j => min Config.fullScaleCharge (f.integrators.get j + charges.get j) }

/-- The count of an integrator, proportional to its charge (R28); rounded down, as 00_scope.md section 5 has
all divisions. -/
def countOf (charge : Nat) : Nat := charge * Config.topCount / Config.fullScaleCharge

/-- 1 µs at the Sense Front End: while it integrates, the photocurrents deliver their charge (R28). -/
def senseTick (photocurrents : Quad Nat) (f : SenseFrontEnd) : SenseFrontEnd :=
  if f.integrating then integrated photocurrents f else f

/-! ### Time -/

/-- A running timer with 1 µs less to its expiry; at 0 its expiry is due. -/
def timerTick (t : Option Nat) : Option Nat := t.map (· - 1)

/-- A hold with 1 µs less of phase delay. -/
def holdTick (h : Hold) : Hold :=
  match h with
  | .phase t => .phase (t - 1)
  | other => other

/-- 1 µs passes: every running timer has 1 µs less to its expiry, and the integrators count (R28) (DESIGN
CHOICE, log entry 4, safe: the expiries themselves are rows of the table). -/
def passTime (s : State) : State :=
  { s with
    link.gapTimer := timerTick s.link.gapTimer
    run.pacer := timerTick s.run.pacer
    lock.watch := timerTick s.lock.watch
    lock.hold := holdTick s.lock.hold
    supply.settleTimer := timerTick s.supply.settleTimer
    sense := senseTick s.pins.photocurrents s.sense
    seq.shot := s.seq.shot.map fun sh => { sh with timeLeft := sh.timeLeft - 1 }
    lights.dutyTimer := timerTick s.lights.dutyTimer
    lights.channels := s.lights.channels.map fun c =>
      { c with firing := c.firing.map fun f => { f with timeLeft := f.timeLeft - 1 } } }

end Sys2Proof.Machine
end

