-- ==== Sys2Proof/Machine/Regulators.lean ====
section
/-!
DEFINITION. The Level Regulator Bank (05_level_regulators.md): figures, the accumulator, the cycle-close step
and what each REG command does when it is taken.
-/

namespace Sys2Proof.Machine

/-! ### Figures and the accumulator (section 5.2) -/

/-- The reading less its baseline, 0 if the baseline exceeds it (R85). -/
def corrected (reading baseline : Nat) : Nat := reading - baseline

/-- The figure from the readings and baselines: the weighted mean of the corrected readings, rounded
down; none when all weights are 0 (R85). -/
def figureOf (weights readings baselines : Quad Nat) : Option Nat :=
  let total := weights.q0 + weights.q1 + weights.q2 + weights.q3
  if total = 0 then none
  else
    some ((weights.q0 * corrected readings.q0 baselines.q0 +
           weights.q1 * corrected readings.q1 baselines.q1 +
           weights.q2 * corrected readings.q2 baselines.q2 +
           weights.q3 * corrected readings.q3 baselines.q3) / total)

/-- A figure input taken by a regulator: refused in OFF, else formed and accumulated (R84, R86). -/
def takeFigure (readings baselines : Quad Nat) (r : Regulator) : Regulator :=
  if r.mode = .off then r
  else
    match figureOf r.bands.weights readings baselines with
    | some f => { r with sum := r.sum + f, count := r.count + 1, lastFigure := some f }
    | none => r

/-- A clip notice taken by a regulator: refused in OFF (R84, R87). -/
def takeClip (r : Regulator) : Regulator :=
  if r.mode = .off then r else { r with clipped := true }

/-- The accumulator and clipped_this_cycle cleared (R89, R109). -/
def clearAccumulator (r : Regulator) : Regulator :=
  { r with sum := 0, count := 0, clipped := false }

/-! ### The cycle-close step (section 5.3) -/

/-- The duration increment d (R93). -/
def durIncrement (m : RegLimits) : Nat := if 0 < m.bandStep then m.bandStep else m.durStep

/-- The middle of the enter band (R93). -/
def bandMid (b : RegBands) : Nat := (b.enterLow + b.enterHigh) / 2

/-- The distance of two numbers. -/
def distance (a b : Nat) : Nat := (a - b) + (b - a)

/-- The multiplier k (R93). -/
def multiplier (r : Regulator) (f : Nat) : Nat :=
  if r.limits.ratio = 0 then 1
  else min 16 (1 + distance f (bandMid r.bands) * r.limits.ratio / 4096)

/-- The fast brighter step (R94). -/
def fastBrighter (r : Regulator) : Regulator :=
  if r.duration < r.limits.durCeiling then
    { r with duration := min (2 * r.duration) r.limits.durCeiling }
  else
    { r with current := min (if r.current = 0 then r.limits.curStep else 2 * r.current) r.limits.curCeiling }

/-- A halved duration, on the band when banding is on (R95). -/
def halvedDuration (r : Regulator) : Nat :=
  let half := r.duration / 2
  if 0 < r.limits.bandStep then half - half % r.limits.bandStep else half

/-- The fast darker step (R95). -/
def fastDarker (r : Regulator) : Regulator :=
  if r.limits.curFloor < r.current then
    { r with current := max (r.current / 2) r.limits.curFloor }
  else
    { r with duration := max (halvedDuration r) r.limits.durMin }

/-- Gain insertion applies (R96 case 1). -/
def gainInsertion (r : Regulator) : Bool :=
  decide (r.duration < r.limits.durCeiling) && decide (0 < r.limits.bandStep) &&
  decide (r.duration < r.limits.bandStep * 16) && decide (r.current < r.limits.curCeiling)

/-- The normal brighter step (R96). -/
def normalBrighter (r : Regulator) (f : Nat) : Regulator :=
  if gainInsertion r then
    { r with current := min (r.current + multiplier r f * r.limits.curStep) r.limits.curCeiling }
  else if r.duration < r.limits.durCeiling then
    { r with duration := min (r.duration + multiplier r f * durIncrement r.limits) r.limits.durCeiling }
  else
    { r with current := min (r.current + multiplier r f * r.limits.curStep) r.limits.curCeiling }

/-- The normal darker step (R97). -/
def normalDarker (r : Regulator) (f : Nat) : Regulator :=
  if r.limits.curFloor < r.current then
    { r with current := max (r.current - multiplier r f * r.limits.curStep) r.limits.curFloor }
  else
    { r with duration := max (r.duration - multiplier r f * durIncrement r.limits) r.limits.durMin }

/-- A brighter step: SAT_HIGH after a clip or with both actuators at their ceilings, else CONVERGING with
the actuators raised (R91). -/
def brighterStep (r : Regulator) (f : Nat) : Regulator :=
  if r.clipped ∨ (r.duration = r.limits.durCeiling ∧ r.current = r.limits.curCeiling) then
    { r with state := .satHigh }
  else if r.limits.ratio = 0 ∧ f < r.bands.fastLow then
    { fastBrighter r with state := .converging }
  else { normalBrighter r f with state := .converging }

/-- A darker step: SAT_LOW with both actuators at their lower limits, else CONVERGING with the actuators
lowered (R92). -/
def darkerStep (r : Regulator) (f : Nat) : Regulator :=
  if r.duration = r.limits.durMin ∧ r.current = r.limits.curFloor then { r with state := .satLow }
  else if r.limits.ratio = 0 ∧ r.bands.fastHigh < f then
    { fastDarker r with state := .converging }
  else { normalDarker r f with state := .converging }

/-- The decision of a regulator that steps, from its state and the average F (R90). -/
def stepOn (r : Regulator) (f : Nat) : Regulator :=
  if r.state = .stable then
    if f < r.bands.leaveLow then brighterStep r f
    else if r.bands.leaveHigh < f then darkerStep r f
    else r
  else
    if f < r.bands.enterLow then brighterStep r f
    else if r.bands.enterHigh < f then darkerStep r f
    else { r with state := .stable }

/-- Cycle close at one regulator: the step when AUTO has figures, then the accumulator cleared (R88,
R89). -/
def closeRegulator (r : Regulator) : Regulator :=
  clearAccumulator (if r.mode = .auto ∧ 0 < r.count then stepOn r (r.sum / r.count) else r)

/-- A run reset at one regulator (R109). -/
def runResetRegulator (r : Regulator) : Regulator :=
  let r' := clearAccumulator r
  if r.mode = .auto then { r' with state := .converging } else r'

/-! ### What the REG commands do to a record (section 5.4) -/

/-- REG_MODE at one record (R101). -/
def withMode (m : RegMode) (r : Regulator) : Regulator :=
  match m with
  | .auto => { r with mode := .auto, state := .converging, sum := 0, count := 0 }
  | .manual => { r with mode := .manual, state := .manual }
  | .off => { r with mode := .off, state := .off }

/-- Check 3 of REG_FORCE, against the limits in force (R103). -/
def forceFits (m : RegLimits) (duration current : Nat) : Bool :=
  decide (m.durMin ≤ duration) && decide (duration ≤ m.durCeiling) &&
  decide (m.curFloor ≤ current) && decide (current ≤ m.curCeiling) &&
  (decide (m.bandStep = 0) || decide (duration % m.bandStep = 0))

/-- REG_FORCE at one record (R103). -/
def withActuators (duration current : Nat) (r : Regulator) : Regulator :=
  let r' := { r with duration := duration, current := current }
  if r.mode = .auto then { r' with state := .converging, sum := 0, count := 0 } else r'

/-- A value raised to `low` if below it and lowered to `high` if above it. -/
def clampTo (low high n : Nat) : Nat := min (max n low) high

/-- A duration rounded down to the band when banding is on, and no lower than dur_min (R106 step 2). -/
def onBand (m : RegLimits) (duration : Nat) : Nat :=
  if 0 < m.bandStep then max (duration - duration % m.bandStep) m.durMin else duration

/-- REG_LIMITS at one record: the limits stored, the actuators moved into them (R105, R106). -/
def withLimits (m : RegLimits) (r : Regulator) : Regulator :=
  { r with
    limits := m
    duration := onBand m (clampTo m.durMin m.durCeiling r.duration)
    current := clampTo m.curFloor m.curCeiling r.current }

/-- One regulator of the bank changed. -/
def updateReg (l : Light) (f : Regulator → Regulator) (s : State) : State :=
  { s with regs := s.regs.set l (f (s.regs.get l)) }

/-- Every regulator of the bank changed. -/
def updateRegs (f : Regulator → Regulator) (s : State) : State :=
  { s with regs := s.regs.map f }

/-- The effect of REG_MODE: the record, and a lit light switched off by OFF (R101, R102). -/
def putRegMode (l : Light) (m : RegMode) (s : State) : State :=
  let s' := updateReg l (withMode m) s
  if m = .off then lightOff l s' else s'

/-- The effect of REG_FORCE; none when check 3 fails (R103). -/
def putRegForce (l : Light) (duration current : Nat) (s : State) : Option State :=
  if forceFits (s.regs.get l).limits duration current then
    some (updateReg l (withActuators duration current) s)
  else none

/-- The effect of REG_BANDS (R104). -/
def putRegBands (l : Light) (b : RegBands) (s : State) : State :=
  updateReg l (fun r => { r with bands := b }) s

/-- The effect of REG_LIMITS (R106). -/
def putRegLimits (l : Light) (m : RegLimits) (s : State) : State :=
  updateReg l (withLimits m) s

/-! ### The REG commands taken directly -/

/-- REG_MODE taken (R101); the reply carries light, mode and state (R99). -/
def takeRegMode (p : List Byte) (s : State) : Taken :=
  match parseRegMode p with
  | .error e => refuse e s
  | .ok (l, m) =>
    let s' := putRegMode l m s
    accept s' [lightCode l, regModeCode (s'.regs.get l).mode, regStateCode (s'.regs.get l).state]

/-- REG_FORCE taken (R103); the reply carries light, duration, current and state (R99). -/
def takeRegForce (p : List Byte) (s : State) : Taken :=
  match parseRegForce p with
  | .error e => refuse e s
  | .ok (l, duration, current) =>
    match putRegForce l duration current s with
    | none => refuse .badValue s
    | some s' =>
      accept s' ([lightCode l] ++ le2 (s'.regs.get l).duration ++ le2 (s'.regs.get l).current ++
        [regStateCode (s'.regs.get l).state])

/-- REG_BANDS taken (R104); the reply carries light, bounds and weights (R99). -/
def takeRegBands (p : List Byte) (s : State) : Taken :=
  match parseRegBands p with
  | .error e => refuse e s
  | .ok (l, b) =>
    let s' := putRegBands l b s
    accept s' (lightCode l :: bandsBytes (s'.regs.get l).bands)

/-- REG_LIMITS taken (R105, R106); the reply carries light, limits, duration and current (R99). -/
def takeRegLimits (p : List Byte) (s : State) : Taken :=
  match parseRegLimits p with
  | .error e => refuse e s
  | .ok (l, m) =>
    let s' := putRegLimits l m s
    accept s' (lightCode l :: limitsBytes (s'.regs.get l).limits ++ le2 (s'.regs.get l).duration ++
      le2 (s'.regs.get l).current)

/-- The last figure as REG_GET carries it: a presence byte and the figure, zeros when none (R183). -/
def lastFigureBytes (f : Option Nat) : List Byte :=
  match f with
  | some n => 1#8 :: le2 n
  | none => 0#8 :: le2 0

/-- The whole record, in the order of R107 (DEDUCED: no light byte, log entry 21, unsafe). -/
def regulatorBytes (r : Regulator) : List Byte :=
  [regModeCode r.mode, regStateCode r.state] ++ le2 r.duration ++ le2 r.current ++ limitsBytes r.limits ++
  bandsBytes r.bands ++ le4 r.sum ++ le1 r.count ++ lastFigureBytes r.lastFigure ++ [boolCode r.clipped]

/-- REG_GET taken (R107). -/
def takeRegGet (p : List Byte) (s : State) : Taken :=
  match parseLight p with
  | .error e => refuse e s
  | .ok l => accept s (regulatorBytes (s.regs.get l))

end Sys2Proof.Machine
end

