-- ==== Sys2Proof/Machine/Lights.lean ====
section
/-!
DEFINITION. The Light Channel Unit (06_light_channels_duty_guard_and_fault_inputs.md): admission at flash
start, cooling, and the commands LIGHT_DUTY, LIGHT_GET and FAULT_CLEAR. The fault arrival itself is in
Machine/Faults.lean, since it may stop a run.
-/

namespace Sys2Proof.Machine

/-! ### Admission (section 6.3) -/

/-- The charge of a firing (R112). -/
def chargeOf (duration current : Nat) : Nat := duration * current / 1024

/-- The room for charge: 0 when heat is above heat_limit (R112). -/
def roomOf (c : LightChannel) : Nat := c.heatLimit - c.heat

/-- The clipped duration t (R113). -/
def clippedDuration (room current : Nat) : Nat := room * 1024 / current

/-- What flash start makes of one light: left out, admitted whole or clipped for a duration, or refused by
its heat budget. -/
inductive Admission where
  | leftOut
  | whole (duration : Nat)
  | clipped (duration : Nat)
  | noRoom
  deriving DecidableEq, Repr

/-- The decision on an offered light (R112, R113): `least` is the least acceptable clipped duration. -/
def judgeOffer (c : LightChannel) (duration current least : Nat) : Admission :=
  if chargeOf duration current ≤ roomOf c then .whole duration
  else
    let t := clippedDuration (roomOf c) current
    if 1 ≤ t ∧ least ≤ t then .clipped t else .noRoom

/-- The duration and current offered for a light (R25, R6). -/
def offerOf (e : ShotEntry) (r : Regulator) : Nat × Nat :=
  match e.fixed with
  | some o => (o.duration, o.current)
  | none => (r.duration, r.current)

/-- The least acceptable clipped duration (R113). -/
def leastDuration (e : ShotEntry) (r : Regulator) : Nat :=
  match e.fixed with
  | some _ => 1
  | none => r.limits.durMin

/-- Flash start at one light: left out when it is not in the entry, its regulator is OFF or it is
faulted, else judged (R25). -/
def admission (e : ShotEntry) (l : Light) (r : Regulator) (c : LightChannel) : Admission :=
  if hasLight e.lights l ∧ r.mode ≠ .off ∧ c.faulted = false then
    judgeOffer c (offerOf e r).1 (offerOf e r).2 (leastDuration e r)
  else .leftOut

/-- The duration a light was admitted for, 0 when it was not admitted. -/
def admittedDuration (a : Admission) : Nat :=
  match a with
  | .whole d => d
  | .clipped d => d
  | .leftOut => 0
  | .noRoom => 0

/-- The light is in the fired set (R25). -/
def isFired (a : Admission) : Bool :=
  match a with
  | .whole _ => true
  | .clipped _ => true
  | .leftOut => false
  | .noRoom => false

/-- The light is in the clipped set (R25). -/
def isClipped (a : Admission) : Bool :=
  match a with
  | .whole _ => false
  | .clipped _ => true
  | .leftOut => false
  | .noRoom => true

/-- The channel after admission: heat debited and the light switched on at the offered current for the
admitted duration (R111, R112, R113). -/
def admitChannel (current : Nat) (a : Admission) (c : LightChannel) : LightChannel :=
  if isFired a then
    { c with heat := c.heat + chargeOf (admittedDuration a) current,
             firing := some ⟨current, admittedDuration a⟩ }
  else c

/-- The admissions of all eight lights at a flash start. -/
def admissions (e : ShotEntry) (regs : Octet Regulator) (channels : Octet LightChannel) : Octet Admission :=
  Octet.ofFn fun l => admission e l (regs.get l) (channels.get l)

/-- The channels after a flash start. -/
def admittedChannels (e : ShotEntry) (regs : Octet Regulator) (channels : Octet LightChannel) :
    Octet LightChannel :=
  Octet.ofFn fun l =>
    admitChannel (offerOf e (regs.get l)).2 ((admissions e regs channels).get l) (channels.get l)

/-- The largest of eight numbers. -/
def largest (o : Octet Nat) : Nat :=
  max (max (max o.l0 o.l1) (max o.l2 o.l3)) (max (max o.l4 o.l5) (max o.l6 o.l7))

/-- The flash phase length: the longer of the window and the longest admitted duration (R26). -/
def flashLengthOf (e : ShotEntry) (a : Octet Admission) : Nat :=
  max e.window (largest (a.map admittedDuration))

/-! ### Cooling (section 6.4) -/

/-- Heat after one duty timer expiry, never below 0 (R115). -/
def coolChannel (c : LightChannel) : LightChannel := { c with heat := c.heat - c.coolRate }

/-- A duty timer expiry: every light cools and the timer runs for a further 1 ms (R115). Nothing happens
when the timer does not run (log entry 3). -/
def dutyTimerExpiry (s : State) : State :=
  match s.lights.dutyTimer with
  | none => s
  | some _ =>
    { s with lights := { channels := s.lights.channels.map coolChannel, dutyTimer := some 1000 } }

/-! ### Commands (sections 6.5 and 6.7) -/

/-- One channel changed. -/
def updateLight (l : Light) (f : LightChannel → LightChannel) (s : State) : State :=
  { s with lights.channels := s.lights.channels.set l (f (s.lights.channels.get l)) }

/-- The effect of LIGHT_DUTY (R116). -/
def putLightDuty (l : Light) (limit rate : Nat) (s : State) : State :=
  updateLight l (fun c => { c with heatLimit := limit, coolRate := rate }) s

/-- LIGHT_DUTY taken (R116). -/
def takeLightDuty (p : List Byte) (s : State) : Taken :=
  match parseLightDuty p with
  | .error e => refuse e s
  | .ok (l, limit, rate) =>
    let s' := putLightDuty l limit rate s
    let c := s'.lights.channels.get l
    accept s' ([lightCode l] ++ le4 c.heatLimit ++ le2 c.coolRate ++ le4 c.heat)

/-- LIGHT_GET taken, the fields in the order of R124 (DEDUCED: no light byte, log entry 21, unsafe). -/
def takeLightGet (p : List Byte) (s : State) : Taken :=
  match parseLight p with
  | .error e => refuse e s
  | .ok l =>
    let c := s.lights.channels.get l
    accept s (le4 c.heat ++ le4 c.heatLimit ++ le2 c.coolRate ++
      [boolCode c.faulted, boolCode (hasLight s.pins.faultLines l), boolCode c.on])

/-- A latched fault cleared, and an AUTO regulator set CONVERGING (R108, R122). -/
def clearFault (l : Light) (s : State) : State :=
  if (s.lights.channels.get l).faulted then
    updateReg l (fun r => if r.mode = .auto then { r with state := .converging } else r)
      (updateLight l (fun c => { c with faulted := false }) s)
  else s

/-- FAULT_CLEAR taken (R122). -/
def takeFaultClear (p : List Byte) (s : State) : Taken :=
  match parseLight p with
  | .error e => refuse e s
  | .ok l =>
    if hasLight s.pins.faultLines l then refuse .stillActive s
    else
      let s' := clearFault l s
      accept s' [lightCode l, boolCode (s'.lights.channels.get l).faulted,
        boolCode (hasLight s'.pins.faultLines l)]

end Sys2Proof.Machine
end

