-- ==== Sys2Proof/Machine/ShotTable.lean ====
section
/-!
DEFINITION. The Shot Table's commands (01_the_shot_table.md).
-/

namespace Sys2Proof.Machine

/-- The status a failed parse answers with, none when it succeeds. -/
def failureOf {α : Type} (r : Except Status α) : Option Status :=
  match r with
  | .error e => some e
  | .ok _ => none

/-- The run states in which the table is written directly (R14, R17). -/
def tableWritable (r : RunState) : Bool :=
  match r with
  | .idle => true
  | .armed => true
  | .delaying => false
  | .running => false
  | .finishing => false
  | .paused => false

/-- The effect of SHOT_PUT: replace below `count`, append at `count`, none above it (R13, R19). -/
def putShot (i : Nat) (e : ShotEntry) (s : State) : Option State :=
  if i < s.table.count then some { s with table.entries := s.table.entries.set i e }
  else if i = s.table.count then some { s with table.entries := s.table.entries ++ [e] }
  else none

/-- The effect of SEQ_SELECT; none when the start is not below `count` (R17, R19). -/
def putSeqStart (start : Nat) (s : State) : Option State :=
  if start < s.table.count then some { s with table.seqStart := start } else none

/-- SHOT_PUT taken directly (R13). -/
def takeShotPut (p : List Byte) (s : State) : Taken :=
  match parseShotPut p with
  | .error e => refuse e s
  | .ok (i, e) =>
    if tableWritable s.run.state then
      match putShot i e s with
      | none => refuse .badValue s
      | some s' => accept s' (le1 i ++ le1 s'.table.count)
    else refuse .busy s

/-- SHOT_GET taken (R16). -/
def takeShotGet (p : List Byte) (s : State) : Taken :=
  match parseIndex p with
  | .error e => refuse e s
  | .ok i =>
    match s.table.entries[i]? with
    | none => refuse .badValue s
    | some e => accept s (le1 i ++ entryBytes e ++ le1 s.table.count ++ le1 s.table.seqStart)

/-- SEQ_SELECT taken directly (R17). -/
def takeSeqSelect (p : List Byte) (s : State) : Taken :=
  match parseSeqSelect p with
  | .error e => refuse e s
  | .ok start =>
    if tableWritable s.run.state then
      match putSeqStart start s with
      | none => refuse .badValue s
      | some s' => accept s' (le1 s'.table.seqStart)
    else refuse .busy s

/-- TABLE_CLEAR taken (R18). -/
def takeTableClear (p : List Byte) (s : State) : Taken :=
  match parseNothing p with
  | .error e => refuse e s
  | .ok _ =>
    if s.run.state = .idle ∧ s.seq.state ≠ .testing then
      accept { s with table := ⟨[], 0⟩ } []
    else refuse .busy s

end Sys2Proof.Machine
end

