-- ==== Sys2Proof/Machine/Staging.lean ====
section
/-!
DEFINITION. The Stage Unit (07_staging_banks.md): capture, the STAGE commands, applying a bank, and the banks
due at a cycle begin with the alternation's step.
-/

namespace Sys2Proof.Machine

/-! ### Layout, capacity, rotation -/

/-- The first slot of a bank (R126). -/
def bankStart (l : StageLayout) (b : Fin 4) : Nat :=
  match b with
  | 0 => 0
  | 1 => l.start1
  | 2 => l.start2
  | 3 => l.start3

/-- The slot after a bank's last (R126). -/
def bankEnd (l : StageLayout) (b : Fin 4) : Nat :=
  match b with
  | 0 => l.start1
  | 1 => l.start2
  | 2 => l.start3
  | 3 => Config.stageCapacity

/-- The capacity of a bank (R126). -/
def bankCapacity (l : StageLayout) (b : Fin 4) : Nat := bankEnd l b - bankStart l b

/-- The record in one slot of the stage memory: bank b's i-th record lies in slot start_b + i (R126). -/
def slotRecord (u : StageUnit) (b : Fin 4) (i : Nat) : Option StageRecord := (u.banks.get b).records[i]?

/-- The 64 slots of the stage memory, bank after bank (R126). -/
def stageSlots (u : StageUnit) : List (Option StageRecord) :=
  (List.range (bankCapacity u.layout 0)).map (slotRecord u 0) ++
  (List.range (bankCapacity u.layout 1)).map (slotRecord u 1) ++
  (List.range (bankCapacity u.layout 2)).map (slotRecord u 2) ++
  (List.range (bankCapacity u.layout 3)).map (slotRecord u 3)

/-- The alternation record names the bank (R128). -/
def namedBy (r : Option Alternation) (b : Fin 4) : Bool :=
  match r with
  | some r => r.a == b || r.b == b
  | none => false

/-- A bank in rotation: READY and named by the alternation record (R128). -/
def inRotation (u : StageUnit) (b : Fin 4) : Bool :=
  (u.banks.get b).state == .ready && namedBy u.alternation b

/-- The OPEN bank, if any (R128). -/
def openBank (u : StageUnit) : Option (Fin 4) :=
  if u.banks.q0.state = .opened then some 0
  else if u.banks.q1.state = .opened then some 1
  else if u.banks.q2.state = .opened then some 2
  else if u.banks.q3.state = .opened then some 3
  else none

/-- A bank replaced. -/
def setBank (b : Fin 4) (bank : Bank) (s : State) : State :=
  { s with stage.banks := s.stage.banks.set b bank }

/-! ### Capture (section 7.3) -/

/-- The capture checks of a stageable command (R130): its length and values alone. -/
def captureCheck (c : Command) (p : List Byte) : Option Status :=
  match c with
  | .shotPut => failureOf (parseShotPut p)
  | .seqSelect => failureOf (parseSeqSelect p)
  | .regMode => failureOf (parseRegMode p)
  | .regForce => failureOf (parseRegForce p)
  | .regBands => failureOf (parseRegBands p)
  | .regLimits => failureOf (parseRegLimits p)
  | .lightDuty => failureOf (parseLightDuty p)
  | _ => none

/-- A stageable command offered to the OPEN bank `b` (R130): its capture checks, then the room. -/
def capture (b : Fin 4) (c : Command) (p : List Byte) (s : State) : Taken :=
  match captureCheck c p with
  | some st => refuse st s
  | none =>
    let bank := s.stage.banks.get b
    if bank.records.length < bankCapacity s.stage.layout b then
      let bank' := { bank with records := bank.records ++ [⟨commandCode c, p⟩] }
      ⟨setBank b bank' s, statusCode .staged :: bankCode b :: le1 bank'.records.length⟩
    else refuse .bankFull s

/-! ### Applying a bank (section 7.5) -/

/-- One record acts on its block; none when its check at apply fails (R136, R137). -/
def applyRecord (r : StageRecord) (s : State) : Option State :=
  match commandOfCode r.code with
  | some .shotPut =>
    match parseShotPut r.payload with
    | .ok (i, e) => putShot i e s
    | .error _ => none
  | some .seqSelect =>
    match parseSeqSelect r.payload with
    | .ok i => putSeqStart i s
    | .error _ => none
  | some .regMode =>
    match parseRegMode r.payload with
    | .ok (l, m) => some (putRegMode l m s)
    | .error _ => none
  | some .regForce =>
    match parseRegForce r.payload with
    | .ok (l, duration, current) => putRegForce l duration current s
    | .error _ => none
  | some .regBands =>
    match parseRegBands r.payload with
    | .ok (l, b) => some (putRegBands l b s)
    | .error _ => none
  | some .regLimits =>
    match parseRegLimits r.payload with
    | .ok (l, m) => some (putRegLimits l m s)
    | .error _ => none
  | some .lightDuty =>
    match parseLightDuty r.payload with
    | .ok (l, limit, rate) => some (putLightDuty l limit rate s)
    | .error _ => none
  | _ => none

/-- An application in progress: the state and the two counts. -/
structure Application where
  state : State
  applied : Nat
  skipped : Nat
  deriving DecidableEq, Repr

/-- One record of an application: applied or skipped (R136). -/
def applyNext (a : Application) (r : StageRecord) : Application :=
  match applyRecord r a.state with
  | some s' => { a with state := s', applied := a.applied + 1 }
  | none => { a with skipped := a.skipped + 1 }

/-- The records of a bank taken one by one in capture order (R136). -/
def applyRecords (rs : List StageRecord) (s : State) : Application :=
  rs.foldl applyNext ⟨s, 0, 0⟩

/-- The payload of STAGE_APPLIED (R139). -/
def stageAppliedPayload (b : Fin 4) (a : Application) : List Byte :=
  [bankCode b] ++ le1 a.applied ++ le1 a.skipped ++ le4 a.state.seq.cycleNumber

/-- A bank applied, with its STAGE_APPLIED report (R136, R139). -/
def applyBank (b : Fin 4) (s : State) : Application :=
  let a := applyRecords (s.stage.banks.get b).records s
  { a with state := raise .stageApplied (stageAppliedPayload b a) a.state }

/-! ### The banks due at a cycle begin (R138, R143) -/

/-- The alternation record after its hold's due bank was applied, if a hold starts, and this cycle begin
counted (R143). -/
def alternationAfter (r : Alternation) : Option Alternation :=
  let left := (if r.remaining = 0 then (if r.dueB then r.periodB else r.periodA) else r.remaining) - 1
  if left = 0 then
    if r.dueB then (if r.repeats then some { r with dueB := false, remaining := 0 } else none)
    else some { r with dueB := true, remaining := 0 }
  else some { r with remaining := left }

/-- The alternation's part of a cycle begin (R143). -/
def alternationStep (s : State) : State :=
  match s.stage.alternation with
  | none => s
  | some r =>
    let s' := if r.remaining = 0 then (applyBank (dueBank r) s).state else s
    { s' with stage.alternation := alternationAfter r }

/-- A PENDING bank is applied and becomes READY again; any other bank is left alone (R138). -/
def applyPending (b : Fin 4) (s : State) : State :=
  if (s.stage.banks.get b).state = .pending then
    let s' := (applyBank b s).state
    setBank b { s'.stage.banks.get b with state := .ready } s'
  else s

/-- Every bank due at a cycle begin: the alternation's first, then the PENDING banks in ascending bank
number (R138). -/
def applyDueBanks (s : State) : State :=
  applyPending 3 (applyPending 2 (applyPending 1 (applyPending 0 (alternationStep s))))

/-! ### The STAGE commands -/

/-- The four starts and the four capacities (R127). -/
def layoutBytes (l : StageLayout) : List Byte :=
  le1 0 ++ le1 l.start1 ++ le1 l.start2 ++ le1 l.start3 ++
  le1 (bankCapacity l 0) ++ le1 (bankCapacity l 1) ++ le1 (bankCapacity l 2) ++ le1 (bankCapacity l 3)

/-- Every bank is EMPTY (R127 check 3). -/
def allEmpty (q : Quad Bank) : Bool :=
  q.q0.state == .empty && q.q1.state == .empty && q.q2.state == .empty && q.q3.state == .empty

/-- STAGE_LAYOUT taken (R127). -/
def takeStageLayout (p : List Byte) (s : State) : Taken :=
  match parseStageLayout p with
  | .error e => refuse e s
  | .ok l =>
    if allEmpty s.stage.banks ∧ s.stage.alternation = none then
      accept { s with stage.layout := l } (layoutBytes l)
    else refuse .bankState s

/-- STAGE_OPEN taken (R129). -/
def takeStageOpen (p : List Byte) (s : State) : Taken :=
  match parseBank p with
  | .error e => refuse e s
  | .ok b =>
    let bank := s.stage.banks.get b
    if openBank s.stage = none ∧
        (bank.state = .empty ∨ (bank.state = .ready ∧ inRotation s.stage b = false)) then
      accept (setBank b ⟨.opened, []⟩ s)
        (bankCode b :: bankStateCode .opened :: le1 (bankCapacity s.stage.layout b))
    else refuse .bankState s

/-- STAGE_CLOSE taken (R132). -/
def takeStageClose (p : List Byte) (s : State) : Taken :=
  match parseNothing p with
  | .error e => refuse e s
  | .ok _ =>
    match openBank s.stage with
    | none => refuse .bankState s
    | some b =>
      let bank := s.stage.banks.get b
      accept (setBank b { bank with state := .ready } s) (bankCode b :: le1 bank.records.length)

/-- STAGE_LAUNCH taken (R133): applied at once in IDLE and ARMED (R140), else PENDING. -/
def takeStageLaunch (p : List Byte) (s : State) : Taken :=
  match parseBank p with
  | .error e => refuse e s
  | .ok b =>
    let bank := s.stage.banks.get b
    if bank.state = .ready ∧ inRotation s.stage b = false then
      if s.run.state = .idle ∨ s.run.state = .armed then
        let a := applyBank b s
        accept a.state ([bankCode b, bankStateCode .ready] ++ le1 a.applied ++ le1 a.skipped)
      else
        accept (setBank b { bank with state := .pending } s)
          ([bankCode b, bankStateCode .pending] ++ le1 0 ++ le1 0)
    else refuse .bankState s

/-- STAGE_DROP taken (R135). -/
def takeStageDrop (p : List Byte) (s : State) : Taken :=
  match parseBank p with
  | .error e => refuse e s
  | .ok b =>
    let bank := s.stage.banks.get b
    if bank.state = .pending then
      accept (setBank b { bank with state := .ready } s) [bankCode b, bankStateCode .ready]
    else if bank.state = .opened ∨ (bank.state = .ready ∧ inRotation s.stage b = false) then
      accept (setBank b ⟨.empty, []⟩ s) [bankCode b, bankStateCode .empty]
    else refuse .bankState s

/-- STAGE_ALTERNATE taken (R141, R142). The reply carries the record behind a presence byte (DEDUCED from
R183, log entry 20, unsafe). -/
def takeStageAlternate (p : List Byte) (s : State) : Taken :=
  match parseStageAlternate p with
  | .error e => refuse e s
  | .ok none => accept { s with stage.alternation := none } (alternationBytes none)
  | .ok (some r) =>
    if (s.stage.banks.get r.a).state = .ready ∧ (s.stage.banks.get r.b).state = .ready then
      accept { s with stage.alternation := some r } (alternationBytes (some r))
    else refuse .bankState s

/-- STAGE_GET's fields (R145). -/
def stageBytes (u : StageUnit) : List Byte :=
  layoutBytes u.layout ++
  [bankStateCode u.banks.q0.state, bankStateCode u.banks.q1.state, bankStateCode u.banks.q2.state,
   bankStateCode u.banks.q3.state] ++
  le1 u.banks.q0.records.length ++ le1 u.banks.q1.records.length ++ le1 u.banks.q2.records.length ++
  le1 u.banks.q3.records.length ++
  [boolCode (inRotation u 0), boolCode (inRotation u 1), boolCode (inRotation u 2),
   boolCode (inRotation u 3)] ++
  alternationBytes u.alternation

/-- STAGE_GET taken (R145). -/
def takeStageGet (p : List Byte) (s : State) : Taken :=
  match parseNothing p with
  | .error e => refuse e s
  | .ok _ => accept s (stageBytes s.stage)

/-- A bank after a run reset: PENDING becomes READY (R146). -/
def runResetBank (b : Bank) : Bank :=
  if b.state = .pending then { b with state := .ready } else b

end Sys2Proof.Machine
end

