-- ==== Sys2Proof/Machine/Results.lean ====
section
/-!
DEFINITION. The Result Queue (08_the_result_queue.md): adding and discarding a record, and the commands
RESULT_READ, RESULT_FLUSH and RESULT_THRESHOLD.
-/

namespace Sys2Proof.Machine

/-- The payload of RESULTS_READY (R155). -/
def resultsReadyPayload (q : ResultQueue) : List Byte :=
  le2 q.count ++ le2 q.threshold ++ le4 q.lost

/-- A record joins the queue as its newest; RESULTS_READY is raised when the count reaches the threshold
by it (R149, R155). -/
def addRecord (r : ResultRecord) (s : State) : State :=
  let s' := { s with results.records := s.results.records ++ [r] }
  if s'.results.count = s'.results.threshold then raise .resultsReady (resultsReadyPayload s'.results) s'
  else s'

/-- A record is discarded by a full queue: lost rises, and a cycle's LOST flag is set (R150, R42). -/
def discardRecord (r : ResultRecord) (s : State) : State :=
  { s with
    results.lost := saturate top32 s.results.lost
    seq.flags.lost := s.seq.flags.lost || !r.test }

/-- A record is offered to the queue (R34). -/
def offerRecord (r : ResultRecord) (s : State) : State :=
  if s.results.count < Config.resultCapacity then addRecord r s else discardRecord r s

/-- RESULT_READ taken (R151); the reply is drawn in section 11.5.2. -/
def takeResultRead (p : List Byte) (s : State) : Taken :=
  match parseResultRead p with
  | .error e => refuse e s
  | .ok n =>
    let removed := s.results.records.take n
    let s' := { s with results.records := s.results.records.drop n }
    accept s' (le1 removed.length ++ le2 s'.results.count ++ le4 s'.results.lost ++
      removed.flatMap recordBytes)

/-- RESULT_FLUSH taken (R153). -/
def takeResultFlush (p : List Byte) (s : State) : Taken :=
  match parseNothing p with
  | .error e => refuse e s
  | .ok _ => accept { s with results.records := [] } (le2 s.results.count ++ le4 s.results.lost)

/-- RESULT_THRESHOLD taken (R154). -/
def takeResultThreshold (p : List Byte) (s : State) : Taken :=
  match parseThreshold p with
  | .error e => refuse e s
  | .ok t =>
    let s' := { s with results.threshold := t }
    accept s' (le2 s'.results.threshold ++ le2 s'.results.count)

end Sys2Proof.Machine
end

