-- ==== Sys2Proof/Machine/RunBasics.lean ====
section
/-!
DEFINITION. The parts of the Run Controller that the Shot Sequencer also reaches: the start event, arming and
run end (03_run_control_and_triggers.md sections 3.5 and 3.8).
-/

namespace Sys2Proof.Machine

/-- The pacer restarted at a start event; it runs only under cycle source PACER (R49). -/
def pacerStart (s : RunSetup) : Option Nat :=
  if s.cycleSource = .pacer then some s.pacerPeriod else none

/-- The run state a start event enters (R55). -/
def startedState (s : RunSetup) : RunState := if 0 < s.delay then .delaying else .running

/-- The counts, timers and delay of a start event, before the run state changes (R55 steps 1 to 4). -/
def openRun (s : State) : State :=
  { s with
    seq.cycleNumber := 0
    run.cycleCount := 0
    run.missed := 0
    run.stopKind := .never
    run.afterLeft := 0
    run.pacer := pacerStart s.run.setup
    run.encoder := s.run.setup.encoderSpan
    run.delayLeft := s.run.setup.delay }

/-- A start event (R55). -/
def startEvent (s : State) : State :=
  changeRun (startedState s.run.setup) .start (openRun s)

/-- ARMED has just been entered: the gate starts a run at once if the line is active then (R56). -/
def gateCheck (s : State) : State :=
  if s.run.setup.startSource = .trigGate ∧ trigActive s then startEvent s else s

/-- Arming by START (R54). -/
def armRun (s : State) : State := gateCheck (changeRun .armed .arm s)

/-- Where a run ends, by its stop kind and the repeat setting (R65). -/
def runDestination (k : StopKind) (repeats : Bool) : RunState :=
  match k with
  | .never => .idle
  | .halt => .idle
  | .fault => .idle
  | .trigEdge => if repeats then .armed else .idle
  | .count => if repeats then .armed else .idle
  | .gate => .armed

/-- The run's timers and counters stopped and `aux_idle` driven (R65 steps 1 and 2, and its closing
paragraph). -/
def closeRun (s : State) : State :=
  { s with
    run.pacer := none
    run.delayLeft := 0
    run.afterLeft := 0
    seq.aux := s.run.setup.auxIdle }

/-- Run end (R65). -/
def runEnd (s : State) : State :=
  let s' := changeRun (runDestination s.run.stopKind s.run.setup.repeats) .runEnd (closeRun s)
  if s'.run.state = .armed then gateCheck s' else s'

/-- The run ends when it is FINISHING with after-left 0 and the sequencer is QUIET (R64). -/
def runEndCheck (s : State) : State :=
  if s.run.state = .finishing ∧ s.run.afterLeft = 0 ∧ s.seq.state = .quiet then runEnd s else s

end Sys2Proof.Machine
end

