-- ==== Sys2Proof/Machine/Sequencer.lean ====
section
/-!
DEFINITION. The Shot Sequencer and the Sense Front End (02_shot_execution_and_sensing.md): opening and
beginning a cycle, the phases of a shot, cycle close, and what ABORT and a run reset do to them.
-/

namespace Sys2Proof.Machine

/-! ### Flash start (section 2.4) -/

/-- The shot in flight after flash start: its sets, its flash length and its phase (R25, R26). -/
def flashedShot (sh : Shot) (a : Octet Admission) : Shot :=
  { sh with
    phase := .flash
    timeLeft := flashLengthOf sh.entry a
    flashLength := flashLengthOf sh.entry a
    fired := lightsWhere fun l => isFired (a.get l)
    clipped := lightsWhere fun l => isClipped (a.get l)
    cut := 0 }

/-- The lights of a shot are offered and admitted, the flash length is fixed and integration starts
(R25, R26, R28). -/
def beginFlash (sh : Shot) (s : State) : State :=
  let a := admissions sh.entry s.regs s.lights.channels
  { s with
    seq.shot := some (flashedShot sh a)
    lights.channels := admittedChannels sh.entry s.regs s.lights.channels
    sense.integrators := ⟨0, 0, 0, 0⟩
    sense.integrating := true }

/-- The lead of the shot in flight expires (R25). Nothing happens when no shot is in LEAD (log entry 3). -/
def flashStart (s : State) : State :=
  match s.seq.shot with
  | some sh => if sh.phase = .lead then beginFlash sh s else s
  | none => s

/-! ### Shot start (section 2.3) -/

/-- The entry at an index is the last of the sequence: END at or above `seq_start`, or entry `count` − 1
(R11, R12). -/
def isLastEntry (t : ShotTable) (index : Nat) (e : ShotEntry) : Bool :=
  (e.endFlag && decide (t.seqStart ≤ index)) || decide (t.count ≤ index + 1)

/-- A shot as it stands at shot start: in LEAD, nothing fired yet (R24). -/
def leadShot (index : Nat) (e : ShotEntry) (test : Bool) : Shot :=
  { index := index, entry := e, test := test, phase := .lead, timeLeft := e.lead, flashLength := 0,
    fired := 0, clipped := 0, cut := 0 }

/-- Shot start at an entry, up to LEAD (R24). -/
def enterLead (index : Nat) (e : ShotEntry) (test : Bool) (s : State) : State :=
  { s with
    seq.shot := some (leadShot index e test)
    seq.lastEntry := isLastEntry s.table index e
    seq.cameras := e.cameras
    seq.aux := e.aux }

/-- Shot start (R24): flash start follows at once when `lead` is 0. The table always has the entry (R10,
R23); without it no shot would start (DESIGN CHOICE, log entry 17, safe: no run reaches it). -/
def startShot (index : Nat) (test : Bool) (s : State) : State :=
  match s.table.entries[index]? with
  | none => s
  | some e =>
    let s' := enterLead index e test s
    if e.lead = 0 then flashStart s' else s'

/-! ### Cycle begin (section 2.2) -/

/-- Cycle begin (R23). -/
def cycleBegin (s : State) : State :=
  let s1 := { s with seq.cycleNumber := wrap32 s.seq.cycleNumber, seq.position := 0 }
  let s2 := applyDueBanks s1
  startShot s2.table.seqStart false
    { s2 with seq.cursor := s2.table.seqStart, seq.state := .shooting }

/-- The per-cycle record opened at a cycle request (R22). -/
def openRecord (s : State) : State :=
  { s with seq.shotsRun := 0, seq.missedDuring := 0, seq.flags := CycleFlags.clear }

/-- A cycle request: the record is opened, and the begin is held or made at once (R22, R75). -/
def openCycle (s : State) : State :=
  let s' := openRecord s
  if s'.lock.setup.enable then
    if s'.lock.syncOk then { s' with lock.hold := .edge, seq.state := .waitSync }
    else cycleBegin { s' with seq.flags.unlocked := true }
  else cycleBegin s'

/-! ### Cycle close (section 2.9) -/

/-- The payload of CYCLE_DONE (R40, section 11.5.3). -/
def cycleDonePayload (number shots : Nat) (s : State) : List Byte :=
  le4 number ++ le1 shots ++ le2 s.seq.missedDuring ++
  [cycleFlagsByte s.seq.flags, stableSet s.regs, saturatedSet s.regs]

/-- The sequencer at rest with the auxiliary outputs idle: no shot, QUIET (R38, R42). Section 2.1 gives the
last-entry marker no value once its shot is over; the model sets it to no (DESIGN CHOICE, log entry 35, safe). -/
def quietSequencer (s : State) : State :=
  { s with
    seq.aux := s.run.setup.auxIdle
    seq.state := .quiet
    seq.shot := none
    seq.lastEntry := false }

/-- Cycle close: the regulators step, CYCLE_DONE is raised, the sequencer goes QUIET and the run may end
(R38). -/
def closeCycle (s : State) : State :=
  let s1 := updateRegs closeRegulator s
  let s2 := raise .cycleDone (cycleDonePayload s1.seq.cycleNumber s1.seq.shotsRun s1) s1
  runEndCheck (quietSequencer s2)

/-- The next shot of the cycle starts (R36, R37). -/
def nextShot (s : State) : State :=
  startShot (s.seq.cursor + 1) false
    { s with seq.cursor := s.seq.cursor + 1, seq.position := s.seq.position + 1, seq.state := .shooting }

/-! ### Flash end (section 2.6) -/

/-- The shot regulates light `l` and may give its regulator a figure: fired and not cut (R32). -/
def givesFigure (sh : Shot) (l : Light) : Bool := hasLight sh.fired l && !hasLight sh.cut l

/-- What a cycle shot hands to the regulator it names (R32). -/
def handOff (sh : Shot) (s : State) : State :=
  match sh.entry.regulate with
  | none => s
  | some l =>
    let s' := if givesFigure sh l then updateReg l (takeFigure s.sense.readings s.sense.baselines) s else s
    if hasLight sh.clipped l then updateReg l takeClip s' else s'

/-- The result record of a shot at its flash end (R33, R42). -/
def recordOf (sh : Shot) (markers : LineSet) (s : State) : ResultRecord :=
  { cycle := if sh.test then 0 else s.seq.cycleNumber
    position := if sh.test then 0 else s.seq.position
    entry := sh.index
    readings := s.sense.readings
    markers := markers
    fired := sh.fired
    clipped := sh.clipped
    cut := sh.cut
    unlocked := !sh.test && s.seq.flags.unlocked
    test := sh.test
    baseline := sh.entry.baseline
    fixed := sh.entry.fixed.isSome }

/-- Every light still on is switched off, the integrators take the charge not counted yet and stop, and their
counts are latched (R27, R28; the operand DESIGN CHOICE, log entry 10, safe). -/
def latchReadings (charges : Quad Nat) (s : State) : State :=
  let s' := allLightsOff s
  let sense := integrated charges s'.sense
  { s' with sense := { sense with integrating := false, readings := sense.integrators.map countOf } }

/-- The baselines take the readings of a BASELINE shot (R29). -/
def takeBaselines (sh : Shot) (s : State) : State :=
  if sh.entry.baseline then { s with sense.baselines := s.sense.readings } else s

/-- The regulator hand-off, which a test shot does not make (R32, R42). -/
def handOffCycle (sh : Shot) (s : State) : State :=
  if sh.test then s else handOff sh s

/-- The result record, which a skipped shot does not produce (R33, R34). -/
def recordShot (sh : Shot) (markers : LineSet) (s : State) : State :=
  if sh.entry.skip then s else offerRecord (recordOf sh markers s) s

/-- The CLIPPED flag of the cycle (R31). -/
def noteClipped (sh : Shot) (s : State) : State :=
  if sh.clipped ≠ 0 ∧ sh.test = false then { s with seq.flags.clipped := true } else s

/-- A shot enters a timed phase. -/
def enterPhase (sh : Shot) (ph : Phase) (time : Nat) (s : State) : State :=
  { s with seq.shot := some { sh with phase := ph, timeLeft := time } }

/-- Tail end of a shot: every camera line is released and GAP begins (R35). -/
def releaseCameras (sh : Shot) (s : State) : State :=
  enterPhase sh .gap sh.entry.gap { s with seq.cameras := 0 }

/-- The tail expires (R35). Nothing happens when no shot is in TAIL (log entry 3). -/
def tailEnd (s : State) : State :=
  match s.seq.shot with
  | some sh => if sh.phase = .tail then releaseCameras sh s else s
  | none => s

/-- Flash end of a shot (R31): readings, markers, baselines, figure, record, cycle flag, phase. -/
def finishFlash (charges : Quad Nat) (markers : LineSet) (sh : Shot) (s : State) : State :=
  let s1 := takeBaselines sh (latchReadings charges s)
  let s2 := noteClipped sh (recordShot sh markers (handOffCycle sh s1))
  let s3 := enterPhase sh .tail sh.entry.tail s2
  if sh.entry.tail = 0 then tailEnd s3 else s3

/-- The flash phase runs out (R31). Nothing happens when no shot is in FLASH (log entry 3). -/
def flashEnd (charges : Quad Nat) (markers : LineSet) (s : State) : State :=
  match s.seq.shot with
  | some sh => if sh.phase = .flash then finishFlash charges markers sh s else s
  | none => s

/-- A light's own duration expires (R27). Nothing changes when the light is off. -/
def firingEnd (l : Light) (s : State) : State := lightOff l s

/-! ### Gap end (section 2.8) -/

/-- The cycle is suspended after a PAUSE entry and the run is PAUSED (R36, R37, R66). -/
def suspendCycle (s : State) : State :=
  changeRun .paused .pause { s with seq.state := .suspended, seq.shot := none }

/-- PAUSE takes effect: the start source is not TRIG_GATE and the run is not FINISHING (R36). -/
def pauseActs (e : ShotEntry) (s : State) : Bool :=
  e.pause && decide (s.run.setup.startSource ≠ .trigGate) && decide (s.run.state ≠ .finishing)

/-- Gap end of a shot of a cycle (R36). -/
def finishCycleShot (sh : Shot) (s : State) : State :=
  let s' := { s with seq.shotsRun := s.seq.shotsRun + 1 }
  if pauseActs sh.entry s' then suspendCycle s'
  else if s'.seq.lastEntry then closeCycle s'
  else nextShot s'

/-- The gap expires (R36; R42 for a test shot). Nothing happens when no shot is in GAP (log entry 3). -/
def gapEnd (s : State) : State :=
  match s.seq.shot with
  | some sh =>
    if sh.phase = .gap then (if sh.test then quietSequencer s else finishCycleShot sh s) else s
  | none => s

/-! ### Resume (section 2.9) -/

/-- A resume event: the run is RUNNING again, and the cycle closes or its next shot starts (R37, R66). -/
def resume (s : State) : State :=
  let s' := changeRun .running .resume s
  if s'.seq.lastEntry then closeCycle s' else nextShot s'

/-! ### ABORT and the run reset (section 2.10) -/

/-- What ABORT and a run reset do to the sequencer in every state: lights off, cameras released, auxiliary
outputs idle, integration stopped without latching, the shot discarded, QUIET, no hold (R43, R44, R79). What a
stopped integrator holds is not touched (DEDUCED, log entry 10, safe). -/
def stopSequencer (s : State) : State :=
  let s' := quietSequencer (allLightsOff s)
  { s' with
    seq.cameras := 0
    sense.integrating := false
    lock.hold := .none }

/-- A cycle in progress is discarded by ABORT: accumulators cleared, CYCLE_DONE with ABORTED (R43, R109).
`number` and `shots` are those the report carries. -/
def discardCycle (number shots : Nat) (s : State) : State :=
  let s' := updateRegs clearAccumulator { s with seq.flags.aborted := true }
  raise .cycleDone (cycleDonePayload number shots s') s'

/-- ABORT at the Shot Sequencer (R43). -/
def abortSequencer (s : State) : State :=
  match s.seq.state with
  | .shooting => discardCycle s.seq.cycleNumber s.seq.shotsRun (stopSequencer s)
  | .suspended => discardCycle s.seq.cycleNumber s.seq.shotsRun (stopSequencer s)
  | .waitSync => discardCycle (wrap32 s.seq.cycleNumber) 0 (stopSequencer s)
  | .testing => stopSequencer s
  | .quiet => stopSequencer s

/-- What a run reset adds at the sequencer, the sense front end and the regulators: the cycle's record is
emptied, the integrators are 0, and the regulators take their run-reset values (R44, section 2.5, R109). -/
def clearCycle (s : State) : State :=
  { updateRegs runResetRegulator (openRecord s) with sense.integrators := ⟨0, 0, 0, 0⟩ }

/-! ### The commands of this chapter -/

/-- FIRE taken (R41). -/
def takeFire (p : List Byte) (s : State) : Taken :=
  match parseIndex p with
  | .error e => refuse e s
  | .ok i =>
    if s.supply.mode ≠ .operate then refuse .notReady s
    else if s.run.state = .idle ∧ s.seq.state = .quiet then
      if i < s.table.count then accept (startShot i true { s with seq.state := .testing }) (le1 i)
      else refuse .badValue s
    else refuse .busy s

/-- SENSE_SET taken (R29). -/
def takeSenseSet (p : List Byte) (s : State) : Taken :=
  match parseSenseSet p with
  | .error e => refuse e s
  | .ok q =>
    let s' := { s with sense.baselines := q }
    accept s' (quad2 s'.sense.baselines)

/-- SENSE_GET taken (R30). -/
def takeSenseGet (p : List Byte) (s : State) : Taken :=
  match parseNothing p with
  | .error e => refuse e s
  | .ok _ => accept s (quad2 s.sense.readings ++ quad2 s.sense.baselines)

end Sys2Proof.Machine
end

