-- ==== Sys2Proof/Machine/Supply.lean ====
section
/-!
DEFINITION. The Supply Controller (10_driver_supply_and_standby.md): changes of supply mode with their SUPPLY
report, the commands STANDBY, WAKE and SUPPLY_SETUP, and the settle timer's expiry.
-/

namespace Sys2Proof.Machine

/-- The settle field of SUPPLY: the time used for a change into WAKING, 0 otherwise (R180). -/
def settleField (mode : SupplyMode) (settle : Nat) : Nat :=
  match mode with
  | .standby => 0
  | .waking => settle
  | .operate => 0

/-- The payload of SUPPLY (R180). -/
def supplyPayload (mode previous : SupplyMode) (cause : SupplyCause) (settle : Nat) : List Byte :=
  [supplyModeCode mode, supplyModeCode previous, supplyCauseCode cause] ++ le1 (settleField mode settle)

/-- A change of supply mode with its report (R180); SUPEN is high in WAKING and OPERATE (R174). -/
def changeSupply (mode : SupplyMode) (cause : SupplyCause) (s : State) : State :=
  raise .supply (supplyPayload mode s.supply.mode cause s.supply.settle)
    { s with supply.mode := mode, supply.supen := decide (mode ≠ .standby) }

/-- A wake from STANDBY: the settle timer starts with the settle value as it stands (R176, R177). -/
def wakeUp (cause : SupplyCause) (s : State) : State :=
  changeSupply .waking cause { s with supply.settleTimer := some (s.supply.settle * 1000) }

/-- Entry to STANDBY: the settle timer and the sync watch stop, `sync_ok` is cleared without a report
(R175, R80). -/
def enterStandby (s : State) : State :=
  changeSupply .standby .standby
    { s with supply.settleTimer := none, lock.syncOk := false, lock.watch := none }

/-- The fields of the STANDBY and WAKE replies (R175, R176). -/
def modeField (s : State) : List Byte := [supplyModeCode s.supply.mode]

/-- STANDBY taken (R175). -/
def takeStandby (p : List Byte) (s : State) : Taken :=
  match parseNothing p with
  | .error e => refuse e s
  | .ok _ =>
    match s.supply.mode with
    | .operate =>
      if s.run.state = .idle ∧ s.seq.state ≠ .testing then
        accept (enterStandby s) (modeField (enterStandby s))
      else refuse .busy s
    | .waking => accept (enterStandby s) (modeField (enterStandby s))
    | .standby => accept s (modeField s)

/-- WAKE taken (R176). -/
def takeWake (p : List Byte) (s : State) : Taken :=
  match parseNothing p with
  | .error e => refuse e s
  | .ok _ =>
    match s.supply.mode with
    | .standby => accept (wakeUp .wake s) (modeField (wakeUp .wake s))
    | .waking => accept s (modeField s)
    | .operate => accept s (modeField s)

/-- SUPPLY_SETUP taken (R179). -/
def takeSupplySetup (p : List Byte) (s : State) : Taken :=
  match parseSupplySetup p with
  | .error e => refuse e s
  | .ok (settle, wake) =>
    let s' := { s with supply.settle := settle, supply.wakeOnTrigger := wake }
    accept s' (le1 s'.supply.settle ++ [boolCode s'.supply.wakeOnTrigger] ++ modeField s')

/-- The settle timer expires (R178). Nothing happens when it does not run (log entry 3). -/
def settleExpiry (s : State) : State :=
  match s.supply.settleTimer with
  | some _ => changeSupply .operate .settle { s with supply.settleTimer := none }
  | none => s

end Sys2Proof.Machine
end

