-- ==== Sys2Proof/Machine/RunControl.lean ====
section
/-!
DEFINITION. The Run Controller (03_run_control_and_triggers.md): stop events, cycle-source events, the TRIG
and ENC inputs, the pacer, and the commands RUN_SETUP, START, CYCLE, HALT and ABORT.
-/

namespace Sys2Proof.Machine

/-! ### Stop events (section 3.7) -/

/-- After-left on entering FINISHING (R62). -/
def afterLeftOf (k : StopKind) (setup : RunSetup) : Nat :=
  match k with
  | .trigEdge => setup.afterCount
  | .count => setup.afterCount
  | .never => 0
  | .halt => 0
  | .gate => 0
  | .fault => 0

/-- The stop kind and after-left of a stop event (R63). -/
def noteStop (k : StopKind) (s : State) : State :=
  { s with run.stopKind := k, run.afterLeft := afterLeftOf k s.run.setup }

/-- A stop event, by run state (R63; R39 in PAUSED; order of the two reports in PAUSED DEDUCED, log entry
15, safe). In PAUSED with after-left 0 the run ends in this event: R63, R64 and R67 followed where R66 lets a later
START find FINISHING (DESIGN CHOICE, log entry 38, unsafe). -/
def stopEvent (k : StopKind) (s : State) : State :=
  match s.run.state with
  | .idle => s
  | .armed => s
  | .delaying => runEnd (noteStop k s)
  | .running => runEndCheck (changeRun .finishing .stop (noteStop k s))
  | .finishing => s
  | .paused =>
    let s1 := noteStop k s
    runEndCheck (changeRun .finishing .stop (closeCycle { s1 with seq.flags.short := true }))

/-! ### Cycle-source events (section 3.6) -/

/-- A missed event: the run missed count and the cycle's missed-during count rise (R59, R22). -/
def countMissed (s : State) : State :=
  { s with
    run.missed := saturate top32 s.run.missed
    seq.missedDuring := saturate top16 s.seq.missedDuring }

/-- An accepted event: the cycle count rises and the request is handed to the sequencer (R58). -/
def acceptCycle (s : State) : State :=
  openCycle { s with run.cycleCount := wrap32 s.run.cycleCount }

/-- An event accepted in RUNNING, with the COUNT stop at the N-th, taken after the acceptance (R60; log
entry 14). -/
def acceptRunning (s : State) : State :=
  let s' := acceptCycle s
  if s'.run.setup.stopSource = .count ∧ s'.run.cycleCount = s'.run.setup.stopCount then stopEvent .count s'
  else s'

/-- An event accepted in FINISHING: after-left falls by 1 (R64). -/
def acceptFinishing (s : State) : State :=
  acceptCycle { s with run.afterLeft := s.run.afterLeft - 1 }

/-- An event in DELAYING (R57). -/
def countDown (s : State) : State :=
  let s' := { s with run.delayLeft := s.run.delayLeft - 1 }
  if s'.run.delayLeft = 0 then changeRun .running .delayDone s' else s'

/-- What a cycle-source event gives: the state after it and its outcome (R61). -/
structure Sourced where
  state : State
  outcome : CycleOutcome
  deriving DecidableEq, Repr

/-- A cycle-source event, by run state and sequencer state (R57, R58, R59, R64). In FINISHING with after-left 0 it
is ignored during a hold too: R64 followed, where R75 counts it as missed (DESIGN CHOICE, log entry 36, unsafe). -/
def cycleSource (s : State) : Sourced :=
  match s.run.state with
  | .idle => ⟨s, .ignored⟩
  | .armed => ⟨s, .ignored⟩
  | .delaying => ⟨countDown s, .delay⟩
  | .running =>
    if s.seq.state = .quiet then ⟨acceptRunning s, .accepted⟩ else ⟨countMissed s, .missed⟩
  | .finishing =>
    if s.run.afterLeft = 0 then ⟨s, .ignored⟩
    else if s.seq.state = .quiet then ⟨acceptFinishing s, .accepted⟩
    else ⟨countMissed s, .missed⟩
  | .paused => ⟨countMissed s, .missed⟩

/-! ### The pacer and the encoder counter (section 3.3) -/

/-- The pacer expires and restarts (R49). Nothing happens when it does not run (log entry 3). -/
def pacerExpiry (s : State) : State :=
  match s.run.pacer with
  | some _ => (cycleSource { s with run.pacer := some s.run.setup.pacerPeriod }).state
  | none => s

/-- The encoder counter counts: cycle source ENCODER in OPERATE (R50). -/
def encoderCounts (s : State) : Bool :=
  decide (s.run.setup.cycleSource = .encoder) && decide (s.supply.mode = .operate)

/-- A rising edge of ENC: the counter falls by 1, and at 0 it reloads to the span and gives a cycle-source
event in the same event (R50). -/
def encoderEdge (s : State) : State :=
  if encoderCounts s then
    if s.run.encoder ≤ 1 then (cycleSource { s with run.encoder := s.run.setup.encoderSpan }).state
    else { s with run.encoder := s.run.encoder - 1 }
  else s

/-- The edge of ENC that brings the counter to 0: it acts as that edge when the counter stands one edge
above 0, and nothing happens otherwise (DEDUCED, log entry 7, safe). -/
def encoderZero (s : State) : State :=
  if s.run.encoder = 1 then encoderEdge s else s

/-! ### The TRIG input (section 3.4) -/

/-- The active edge as a cycle-source event (R51, second column). -/
def trigCycle (s : State) : State :=
  if s.run.setup.cycleSource = .trig then (cycleSource s).state else s

/-- The active edge as a stop event (R51, third column). -/
def trigStop (s : State) : State :=
  if s.run.setup.stopSource = .trigEdge then stopEvent .trigEdge s else s

/-- The active edge in ARMED: a start event under start sources TRIG_EDGE and TRIG_GATE (R51, R56). -/
def trigArmed (s : State) : State :=
  match s.run.setup.startSource with
  | .command => s
  | .trigEdge => startEvent s
  | .trigGate => startEvent s

/-- The active edge in OPERATE: its roles by the run state it finds, a cycle-source event before a stop
event (R51). -/
def trigOperate (s : State) : State :=
  match s.run.state with
  | .idle => s
  | .armed => trigArmed s
  | .delaying => trigStop (trigCycle s)
  | .running => trigStop (trigCycle s)
  | .finishing => trigCycle s
  | .paused => if s.run.setup.startSource = .trigEdge then resume s else trigStop (trigCycle s)

/-- TRIG goes to its active level (R51, R177). -/
def trigActiveEdge (s : State) : State :=
  let s' := setTrig true s
  match s'.supply.mode with
  | .standby => if s'.supply.wakeOnTrigger then wakeUp .trigger s' else s'
  | .waking => s'
  | .operate => trigOperate s'

/-- The gate becomes inactive in DELAYING or RUNNING (R56). -/
def gateStop (s : State) : State :=
  match s.run.state with
  | .delaying => stopEvent .gate s
  | .running => stopEvent .gate s
  | .idle => s
  | .armed => s
  | .finishing => s
  | .paused => s

/-- TRIG goes to its inactive level: in OPERATE, the stop of a gated run (R56). -/
def trigInactiveEdge (s : State) : State :=
  let s' := setTrig false s
  if s'.supply.mode = .operate ∧ s'.run.setup.startSource = .trigGate then gateStop s' else s'

/-! ### RUN_SETUP (section 3.2) -/

/-- The effect of an accepted RUN_SETUP (R48). -/
def putRunSetup (setup : RunSetup) (s : State) : State :=
  { s with
    run.setup := setup
    run.encoder := setup.encoderSpan
    seq.aux := if s.seq.state = .testing then s.seq.aux else setup.auxIdle }

/-- RUN_SETUP taken (R46). -/
def takeRunSetup (p : List Byte) (s : State) : Taken :=
  match parseRunSetup p with
  | .error e => refuse e s
  | .ok setup =>
    if s.run.state = .idle then accept (putRunSetup setup s) (runSetupBytes (putRunSetup setup s).run.setup)
    else refuse .busy s

/-! ### START, CYCLE and HALT -/

/-- The run state as replies carry it. -/
def runField (s : State) : List Byte := [runStateCode s.run.state]

/-- START that passes its first four checks, by run state and start source; none is BUSY (R53). After a stop taken
in PAUSED with after-left 0 it finds the state in which the run ended, and is not BUSY (DESIGN CHOICE, log entry 38,
unsafe). -/
def startByState (s : State) : Option State :=
  match s.run.state with
  | .idle =>
    match s.run.setup.startSource with
    | .command => some (startEvent s)
    | .trigEdge => some (armRun s)
    | .trigGate => some (armRun s)
  | .armed =>
    match s.run.setup.startSource with
    | .command => some (startEvent s)
    | .trigEdge => some s
    | .trigGate => some s
  | .paused =>
    match s.run.setup.startSource with
    | .command => some (resume s)
    | .trigEdge => none
    | .trigGate => none
  | .delaying => none
  | .running => none
  | .finishing => none

/-- START taken (R52). -/
def takeStart (p : List Byte) (s : State) : Taken :=
  match parseNothing p with
  | .error e => refuse e s
  | .ok _ =>
    if s.supply.mode ≠ .operate then refuse .notReady s
    else if s.seq.state = .testing then refuse .busy s
    else if s.table.count ≤ s.table.seqStart then refuse .noSequence s
    else
      match startByState s with
      | none => refuse .busy s
      | some s' => accept s' (runField s')

/-- The cycle count as CYCLE's reply carries it: 0 unless the outcome is ACCEPTED (section 11.2). -/
def cycleCountField (r : Sourced) : Nat :=
  match r.outcome with
  | .accepted => r.state.run.cycleCount
  | .ignored => 0
  | .delay => 0
  | .missed => 0

/-- CYCLE taken (R61). -/
def takeCycle (p : List Byte) (s : State) : Taken :=
  match parseNothing p with
  | .error e => refuse e s
  | .ok _ =>
    if s.run.setup.cycleSource = .command ∨ s.run.state = .idle ∨ s.run.state = .armed then
      let r := cycleSource s
      accept r.state (cycleOutcomeCode r.outcome :: le4 (cycleCountField r))
    else refuse .busy s

/-- HALT's effect, by run state (R67). -/
def haltRun (s : State) : State :=
  match s.run.state with
  | .idle => s
  | .armed => changeRun .idle .disarm s
  | .delaying => stopEvent .halt s
  | .running => stopEvent .halt s
  | .paused => stopEvent .halt s
  | .finishing => s

/-- HALT taken (R67). -/
def takeHalt (p : List Byte) (s : State) : Taken :=
  match parseNothing p with
  | .error e => refuse e s
  | .ok _ => accept (haltRun s) (runField (haltRun s))

/-! ### ABORT (section 3.10) -/

/-- What ABORT and a run reset do to the Run Controller's timers and counters (R68 steps 1 and 2). -/
def stopRun (s : State) : State :=
  { s with
    run.pacer := none
    run.encoder := s.run.setup.encoderSpan
    run.delayLeft := 0
    run.afterLeft := 0
    run.stopKind := .never }

/-- The run state becomes IDLE, with a RUN_STATE report if it was not already (R68 step 3, R70). -/
def goIdle (cause : RunCause) (s : State) : State :=
  if s.run.state = .idle then s else changeRun .idle cause s

/-- ABORT's effect in a run, or with a test shot in flight (R68; the order of its two reports DEDUCED, log
entry 16, safe). -/
def abortRun (s : State) : State := goIdle .abort (stopRun (abortSequencer s))

/-- ABORT taken (R68). -/
def takeAbort (p : List Byte) (s : State) : Taken :=
  match parseNothing p with
  | .error e => refuse e s
  | .ok _ =>
    if s.run.state ≠ .idle ∨ s.seq.state = .testing then accept (abortRun s) [] else accept s []

end Sys2Proof.Machine
end

