-- ==== Sys2Proof/Machine/LineLock.lean ====
section
/-!
DEFINITION. The Line Lock Unit (04_line_lock.md): LOCK_SETUP, the sync watch and the release of a hold.
-/

namespace Sys2Proof.Machine

/-- The payload of SYNC (R74). -/
def syncPayload (regained : Bool) (s : State) : List Byte :=
  [boolCode regained] ++ le4 s.seq.cycleNumber ++ [runStateCode s.run.state]

/-- A change of `sync_ok` by an edge or a watch expiry, with its report (R74). -/
def changeSync (ok : Bool) (s : State) : State :=
  raise .sync (syncPayload ok s) { s with lock.syncOk := ok }

/-- `sync_ok` cleared and the watch stopped, without a report (R71, R80). -/
def clearSync (s : State) : State := { s with lock.syncOk := false, lock.watch := none }

/-- The effect of an accepted LOCK_SETUP (R71). -/
def putLockSetup (setup : LockSetup) (s : State) : State :=
  let s' := { s with lock.setup := setup }
  if s.lock.setup.enable ∧ setup.enable = false then clearSync s' else s'

/-- LOCK_SETUP taken (R71). -/
def takeLockSetup (p : List Byte) (s : State) : Taken :=
  match parseLockSetup p with
  | .error e => refuse e s
  | .ok setup =>
    if s.seq.state = .waitSync then refuse .busy s
    else
      let s' := putLockSetup setup s
      accept s' (lockSetupBytes s'.lock.setup ++ [boolCode s'.lock.syncOk])

/-- The watch restarts with the timeout, and `sync_ok` is set with REGAINED if it was clear (R72). -/
def restartWatch (s : State) : State :=
  let s' := { s with lock.watch := some (s.lock.setup.timeout * 1000) }
  if s'.lock.syncOk then s' else changeSync true s'

/-- The edge acts on a hold that waits for it (R76). -/
def releaseByEdge (s : State) : State :=
  match s.lock.hold with
  | .edge =>
    if 0 < s.lock.setup.phase then { s with lock.hold := .phase s.lock.setup.phase }
    else cycleBegin { s with lock.hold := .none }
  | .phase _ => s
  | .none => s

/-- The edge is active and taken: the lock is enabled, the mode is OPERATE and the direction is the
polarity's (R72). -/
def syncTaken (direction : Polarity) (s : State) : Bool :=
  s.lock.setup.enable && decide (s.supply.mode = .operate) && decide (direction = s.lock.setup.polarity)

/-- An edge of SYNC (R72, R76). -/
def syncEdge (direction : Polarity) (s : State) : State :=
  if syncTaken direction s then releaseByEdge (restartWatch s) else s

/-- A held cycle released by a watch expiry (R77). -/
def releaseUnlocked (s : State) : State :=
  match s.lock.hold with
  | .none => s
  | .edge => cycleBegin { s with seq.flags.unlocked := true, lock.hold := .none }
  | .phase _ => cycleBegin { s with seq.flags.unlocked := true, lock.hold := .none }

/-- The watch timer expires (R73, R77). Nothing happens when it does not run (log entry 3). -/
def watchExpiry (s : State) : State :=
  match s.lock.watch with
  | some _ => releaseUnlocked (changeSync false { s with lock.watch := none })
  | none => s

/-- The phase delay runs out and the held cycle begins locked (R76). Nothing happens when no phase delay
runs (log entry 3). -/
def phaseDelayEnd (s : State) : State :=
  match s.lock.hold with
  | .phase _ => cycleBegin { s with lock.hold := .none }
  | .edge => s
  | .none => s

end Sys2Proof.Machine
end

