-- ==== Sys2Proof/Machine/Faults.lean ====
section
/-!
DEFINITION. The fault lines (06_light_channels_duty_guard_and_fault_inputs.md section 6.6): fault arrival with
its cut, its report and its stop, and the line's return to inactive.
-/

namespace Sys2Proof.Machine

/-- A fault latch now would raise a stop event (R120). -/
def faultStops (s : State) : Bool :=
  s.run.setup.faultHalts &&
  (decide (s.run.state = .delaying) || decide (s.run.state = .running) || decide (s.run.state = .paused))

/-- The payload of FAULT, from the state in which the fault latched (R119). -/
def faultPayload (l : Light) (cut : Bool) (s : State) : List Byte :=
  [lightCode l, boolCode cut, runStateCode s.run.state] ++ le4 s.seq.cycleNumber ++
  [boolCode (faultStops s)] ++ le4 (s.lights.channels.get l).heat

/-- The light joins the cut set of the shot in flight (R118). -/
def noteCut (l : Light) (s : State) : State :=
  { s with seq.shot := s.seq.shot.map fun sh => { sh with cut := addLight sh.cut l } }

/-- The light is cut if it is on (R117 step 2, R118). -/
def cutIfOn (l : Light) (s : State) : State :=
  if (s.lights.channels.get l).on then noteCut l (lightOff l s) else s

/-- faulted becomes yes (R117 step 1). -/
def setFaulted (l : Light) (s : State) : State := updateLight l (fun c => { c with faulted := true }) s

/-- A fault latches: the latch, the cut, the report, the stop (R117). -/
def latchFault (l : Light) (s : State) : State :=
  let cut := (s.lights.channels.get l).on
  let s1 := cutIfOn l (setFaulted l s)
  let s2 := raise .fault (faultPayload l cut s1) s1
  if faultStops s1 then stopEvent .fault s2 else s2

/-- The level of a fault line. -/
def setFaultLine (l : Light) (active : Bool) (s : State) : State :=
  { s with pins.faultLines :=
      if active then addLight s.pins.faultLines l else dropLight s.pins.faultLines l }

/-- FLTn becomes active: a fault arrival, with no effect on a light already faulted (R117). It raises no report
then, R117 and R119 followed against the last sentence of R121 (DESIGN CHOICE, log entry 37, unsafe). -/
def faultArrival (l : Light) (s : State) : State :=
  let s' := setFaultLine l true s
  if (s'.lights.channels.get l).faulted then s' else latchFault l s'

/-- FLTn becomes inactive: faulted stays (R117). -/
def faultLineReturn (l : Light) (s : State) : State := setFaultLine l false s

end Sys2Proof.Machine
end

