-- ==== Sys2Proof/Machine/Reset.lean ====
section
/-!
DEFINITION. The run reset and the full reset (09_the_link_port.md section 9.6), and reset completion.
-/

namespace Sys2Proof.Machine

/-- What a run reset clears beside ABORT's effects: the counts, the cycle's record, the accumulators, the
Result Queue, PENDING banks, the alternation and `sync_ok` (R170). -/
def clearRunning (s : State) : State :=
  let s' := clearSync (clearCycle s)
  { s' with
    run.cycleCount := 0
    run.missed := 0
    results.records := []
    results.lost := 0
    stage.banks := s'.stage.banks.map runResetBank
    stage.alternation := none }

/-- A run reset (R170; R44, R70, R109, R146, R156, R80). Its RUN_STATE report is raised with the counts as
they stood (DEDUCED, log entry 13, safe). -/
def runReset (s : State) : State :=
  clearRunning (goIdle .reset (stopRun (stopSequencer s)))

/-- A full reset, by the cause given: every block at its full-reset value, the duty timer not yet started,
the part in reset (R172). The levels of the input pins are the outside's and stay (DESIGN CHOICE, log entry
2, unsafe). -/
def fullReset (cause : ResetCause) (s : State) : State :=
  { table := ShotTable.reset
    seq := Sequencer.reset
    sense := SenseFrontEnd.reset
    regs := Octet.ofFn fun _ => Regulator.reset
    lights := LightUnit.reset none
    run := RunController.reset
    lock := LineLock.reset
    stage := StageUnit.reset
    results := ResultQueue.reset
    link := LinkPort.reset
    supply := SupplyController.reset
    pins := s.pins
    resetCause := some cause
    pending := s.pending }

/-- A light at reset completion: its full-reset value, faulted exactly when its line is active then (R125). -/
def lightAtCompletion (lines : LightSet) (l : Light) : LightChannel :=
  { LightChannel.reset with faulted := hasLight lines l }

/-- The lights and the duty timer at reset completion (R115, R125). -/
def startLights (s : State) : State :=
  { s with
    lights := { channels := Octet.ofFn fun l => lightAtCompletion s.pins.faultLines l, dutyTimer := some 1000 } }

/-- Reset completion: READY joins the Report Queue whatever the mask, and its transmission begins (R167,
R172, R164). Nothing happens when the part is not in reset (log entry 3). -/
def completeReset (s : State) : State :=
  match s.resetCause with
  | none => s
  | some cause =>
    let s' := startLights s
    startSend { s' with link.reports := s'.link.reports ++ [readyFrame cause], resetCause := none }

/-- The full reset of a RESET FULL command: RSTN is high and the supplies are in range, so it completes in
the same event (DEDUCED, log entry 9, safe). The reports still queued are discarded unsent, as R171 says, the
RUN_STATE report of a RESET RUN taken before among them, which R173 says is sent (DESIGN CHOICE, log entry 34,
unsafe). -/
def commandReset (s : State) : State := completeReset (fullReset .command s)

/-- The reply of a RESET FULL has left the Reply Queue and the executor still waits for its last byte
(R171). -/
def resetDue (s : State) : Bool :=
  decide (s.link.executor = .holding) && s.link.replies.isEmpty

end Sys2Proof.Machine
end

