-- ==== Sys2Proof/Machine/LinkCommands.lean ====
section
/-!
DEFINITION. The commands of the Link Port itself: IDENTIFY, STATUS, REPORT_MASK and RESET
(09_the_link_port.md sections 9.4 to 9.6).
-/

namespace Sys2Proof.Machine

/-- IDENTIFY's fields (R168). -/
def identifyBytes : List Byte :=
  le2 Config.partCode ++ le2 Config.siliconRevision ++ le2 Config.tableCapacity ++
  le2 Config.resultCapacity ++ le2 Config.stageCapacity

/-- IDENTIFY taken (R168). -/
def takeIdentify (p : List Byte) (s : State) : Taken :=
  match parseNothing p with
  | .error e => refuse e s
  | .ok _ => accept s identifyBytes

/-- STATUS's fields after the status byte (R169, section 11.5.4). -/
def statusBytes (s : State) : List Byte :=
  [supplyModeCode s.supply.mode, runStateCode s.run.state, seqStateCode s.seq.state] ++
  le4 s.seq.cycleNumber ++ le4 s.run.missed ++ le2 s.results.count ++ le4 s.results.lost ++
  [faultedSet s.lights.channels, boolCode s.lock.syncOk, bankStatesByte s.stage.banks] ++
  le2 s.link.linkErrors ++ le2 s.link.framesDropped ++ le2 s.link.reportsLost

/-- STATUS taken (R169). -/
def takeStatus (p : List Byte) (s : State) : Taken :=
  match parseNothing p with
  | .error e => refuse e s
  | .ok _ => accept s (statusBytes s)

/-- REPORT_MASK taken (R166). -/
def takeReportMask (p : List Byte) (s : State) : Taken :=
  match parseMask p with
  | .error e => refuse e s
  | .ok m =>
    let s' := { s with link.mask := m }
    accept s' [s'.link.mask]

/-- RESET taken: RUN acts within the taking, FULL holds the executor until its reply has been sent (R170,
R171). -/
def takeReset (p : List Byte) (s : State) : Taken :=
  match parseReset p with
  | .error e => refuse e s
  | .ok .run => accept (runReset s) []
  | .ok .full => accept { s with link.executor := .holding } []

end Sys2Proof.Machine
end

