-- ==== Sys2Proof/Machine/Executor.lean ====
section
/-!
DEFINITION. The executor (09_the_link_port.md section 9.3): routing a taken command by its code, taking one
command with its reply, and the service of the queues at the end of an event.
-/

namespace Sys2Proof.Machine

/-- A command executed by the block that owns its state, by the rule of that command (R161). -/
def executeDirect (c : Command) (p : List Byte) (s : State) : Taken :=
  match c with
  | .identify => takeIdentify p s
  | .status => takeStatus p s
  | .reportMask => takeReportMask p s
  | .reset => takeReset p s
  | .shotPut => takeShotPut p s
  | .shotGet => takeShotGet p s
  | .seqSelect => takeSeqSelect p s
  | .tableClear => takeTableClear p s
  | .fire => takeFire p s
  | .senseSet => takeSenseSet p s
  | .senseGet => takeSenseGet p s
  | .runSetup => takeRunSetup p s
  | .start => takeStart p s
  | .cycle => takeCycle p s
  | .halt => takeHalt p s
  | .abort => takeAbort p s
  | .lockSetup => takeLockSetup p s
  | .regMode => takeRegMode p s
  | .regForce => takeRegForce p s
  | .regBands => takeRegBands p s
  | .regLimits => takeRegLimits p s
  | .regGet => takeRegGet p s
  | .lightDuty => takeLightDuty p s
  | .lightGet => takeLightGet p s
  | .faultClear => takeFaultClear p s
  | .stageOpen => takeStageOpen p s
  | .stageClose => takeStageClose p s
  | .stageLaunch => takeStageLaunch p s
  | .stageDrop => takeStageDrop p s
  | .stageLayout => takeStageLayout p s
  | .stageAlternate => takeStageAlternate p s
  | .stageGet => takeStageGet p s
  | .resultRead => takeResultRead p s
  | .resultFlush => takeResultFlush p s
  | .resultThreshold => takeResultThreshold p s
  | .standby => takeStandby p s
  | .wake => takeWake p s
  | .supplySetup => takeSupplySetup p s

/-- A command routed: a stageable one to the OPEN bank, if any, else to the block that owns its state (R161,
R130). -/
def executeCommand (c : Command) (p : List Byte) (s : State) : Taken :=
  match openBank s.stage with
  | some b => if isStageable c then capture b c p s else executeDirect c p s
  | none => executeDirect c p s

/-- A taken frame executed; a code that names no command is UNKNOWN (R162). -/
def execute (f : Frame) (s : State) : Taken :=
  match commandOfCode f.code with
  | some c => executeCommand c f.payload s
  | none => refuse .unknown s

/-- A frame executed and answered: the reply joins the Reply Queue in the same event (R161, R163). -/
def answer (f : Frame) (s : State) : State :=
  pushReply (replyFrame f (execute f s).reply) (execute f s).state

/-- The executor takes its next command: it is idle, a command waits and the Reply Queue has room (R161). -/
def canTake (s : State) : Bool :=
  decide (s.link.executor = .idle) && !s.link.commands.isEmpty &&
  decide (s.link.replies.length < Config.replyCapacity)

/-- The oldest command is taken (R161). -/
def takeOne (s : State) : State :=
  match s.link.commands with
  | [] => s
  | f :: rest => answer f { s with link.commands := rest }

/-- The transmitter and the executor act for as long as either can; each taking uses up one of `n` (R161,
R164). -/
def service (n : Nat) (s : State) : State :=
  match n with
  | 0 => startSend s
  | m + 1 => if canTake (startSend s) then service m (takeOne (startSend s)) else startSend s

/-- The service of the queues, with as many takings as there are commands. -/
def settle (s : State) : State := service s.link.commands.length s

/-- An event of the part: its effect, then the service of the queues; nothing while the part is in reset
(R172; log entries 6 and 12). -/
def event (f : State → State) (s : State) : Host.Outcome State Fault Refusal :=
  .next (if s.resetCause.isSome then s else settle (f s))

end Sys2Proof.Machine
end

