-- ==== Sys2Proof/Machine/LinkPort.lean ====
section
/-!
DEFINITION. The receiver and the transmitter's events (09_the_link_port.md sections 9.2 and 9.4).
-/

namespace Sys2Proof.Machine

/-! ### The arrival of a checked frame -/

/-- A frame whose CHECK matched joins the Command Queue, or is dropped and counted when it holds 4 (R160).
No frame has more than 250 payload bytes (log entry 33). -/
def arrive (f : Frame) (s : State) : State :=
  if Config.payloadCapacity < f.payload.length then s
  else if s.link.commands.length < Config.commandCapacity then
    { s with link.commands := s.link.commands ++ [f] }
  else { s with link.framesDropped := saturate top16 s.link.framesDropped }

/-- A link error is counted (R160, R159). -/
def countLinkError (s : State) : State :=
  { s with link.linkErrors := saturate top16 s.link.linkErrors }

/-! ### The receiver -/

/-- The gap timer's time, in µs (R159). -/
def gapTime : Nat := 2000

/-- HUNTING, with the gap timer stopped (R158, R159). -/
def hunt (s : State) : State :=
  { s with link.receiver := .hunting, link.gapTimer := none }

/-- ASSEMBLING, with the bytes given after the start byte; the gap timer restarts (R158, R159). -/
def assemble (got : List Byte) (s : State) : State :=
  { s with link.receiver := .assembling got, link.gapTimer := some gapTime }

/-- A LEN the receiver keeps (R158). -/
def lenGood (len : Byte) : Bool := decide (2 ≤ len.toNat) && decide (len.toNat ≤ 252)

/-- A complete frame judged by its CHECK: `got` is LEN, code, tag, payload and CHECK (R160). -/
def judge (got : List Byte) (s : State) : State :=
  if crc8 got.dropLast = got.getLastD 0#8 then
    arrive ⟨got.getD 1 0#8, got.getD 2 0#8, got.dropLast.drop 3⟩ s
  else countLinkError s

/-- The bytes collected so far, the newest one last: LEN alone, a part of a frame or a whole frame
(R158). -/
def collect (got : List Byte) (s : State) : State :=
  match got with
  | [] => hunt s
  | len :: rest =>
    if lenGood len then
      if rest.length < len.toNat + 1 then assemble got s else judge got (hunt s)
    else hunt s

/-- A byte arrives at RXD (R158); none is taken while the receiver waits for the line to return to its
idle level (R159). -/
def receiveByte (b : Byte) (s : State) : State :=
  if s.link.waitIdle then s
  else
    match s.link.receiver with
    | .hunting => if b = startByte then assemble [] s else s
    | .assembling got => collect (got ++ [b]) s

/-- A whole frame arrives: its bytes in order, the queues served after each, as for single bytes (log
entry 31). -/
def receiveFrame (bytes : List Byte) (s : State) : State :=
  bytes.foldl (fun s b => settle (receiveByte b s)) s

/-- A byte with a bad stop bit: it discards a partial frame and is counted; a line held at the wrong level
is waited for (R159; the operand DEDUCED, log entry 11, safe). -/
def framingErrorSeen (held : Bool) (s : State) : State :=
  if s.link.waitIdle then s
  else
    let s' := countLinkError (hunt s)
    { s' with link.waitIdle := held }

/-- The gap timer expires (R159). Nothing happens when it does not run (log entry 3). -/
def gapTimerExpires (s : State) : State :=
  match s.link.gapTimer with
  | some _ => hunt s
  | none => s

/-- RXD returns to its idle level: bytes are taken again (R159). -/
def lineIdle (s : State) : State := { s with link.waitIdle := false }

/-! ### The transmitter -/

/-- The transmitter has sent the last byte of its frame (R164); when that frame was the reply to RESET FULL
the full reset takes place (R171; log entry 8). Nothing happens when no frame is in transmission. -/
def frameSentEvent (s : State) : State :=
  match s.link.sending with
  | some _ => if resetDue s then commandReset s else { s with link.sending := none }
  | none => s

/-- The full reset of RESET FULL (R171): nothing happens unless its reply is out (log entry 8). -/
def fullResetEvent (s : State) : State := if resetDue s then commandReset s else s

end Sys2Proof.Machine
end

