-- ==== Sys2Proof/Machine/HostCommands.lean ====
section
/-!
DEFINITION. The host commands, one meaning each: the command's frame arrives whole and checked, is taken in
the same event when the executor can take it, and waits in the Command Queue otherwise (R160, R161; log entry
5). What the command does when it is taken is its `take` definition, routed by Machine/Executor.lean.
-/

namespace Sys2Proof.Machine

/-- The frame of a host command arrives (R160, R161). -/
def hostCommand (c : Command) (tag : Byte) (payload : List Byte) (s : State) :
    Host.Outcome State Fault Refusal :=
  event (arrive ⟨commandCode c, tag, payload⟩) s

/-- IDENTIFY (R168). -/
def execIdentify (tag : Byte) (payload : List Byte) (s : State) : Host.Outcome State Fault Refusal :=
  hostCommand .identify tag payload s

/-- STATUS (R169). -/
def execStatus (tag : Byte) (payload : List Byte) (s : State) : Host.Outcome State Fault Refusal :=
  hostCommand .status tag payload s

/-- REPORT_MASK (R166). -/
def execReportMask (tag : Byte) (payload : List Byte) (s : State) : Host.Outcome State Fault Refusal :=
  hostCommand .reportMask tag payload s

/-- RESET of kind RUN (R170). -/
def execResetRun (tag : Byte) (s : State) : Host.Outcome State Fault Refusal :=
  hostCommand .reset tag [1#8] s

/-- RESET of kind FULL (R171). -/
def execResetFull (tag : Byte) (s : State) : Host.Outcome State Fault Refusal :=
  hostCommand .reset tag [2#8] s

/-- A command frame whose code names no command (R162). -/
def execUnknownCode (code tag : Byte) (payload : List Byte) (s : State) : Host.Outcome State Fault Refusal :=
  event (arrive ⟨code, tag, payload⟩) s

/-- SHOT_PUT (R13). -/
def execShotPut (tag : Byte) (payload : List Byte) (s : State) : Host.Outcome State Fault Refusal :=
  hostCommand .shotPut tag payload s

/-- SHOT_GET (R16). -/
def execShotGet (tag : Byte) (payload : List Byte) (s : State) : Host.Outcome State Fault Refusal :=
  hostCommand .shotGet tag payload s

/-- SEQ_SELECT (R17). -/
def execSeqSelect (tag : Byte) (payload : List Byte) (s : State) : Host.Outcome State Fault Refusal :=
  hostCommand .seqSelect tag payload s

/-- TABLE_CLEAR (R18). -/
def execTableClear (tag : Byte) (payload : List Byte) (s : State) : Host.Outcome State Fault Refusal :=
  hostCommand .tableClear tag payload s

/-- FIRE (R41). -/
def execFire (tag : Byte) (payload : List Byte) (s : State) : Host.Outcome State Fault Refusal :=
  hostCommand .fire tag payload s

/-- SENSE_SET (R29). -/
def execSenseSet (tag : Byte) (payload : List Byte) (s : State) : Host.Outcome State Fault Refusal :=
  hostCommand .senseSet tag payload s

/-- SENSE_GET (R30). -/
def execSenseGet (tag : Byte) (payload : List Byte) (s : State) : Host.Outcome State Fault Refusal :=
  hostCommand .senseGet tag payload s

/-- RUN_SETUP (R46). -/
def execRunSetup (tag : Byte) (payload : List Byte) (s : State) : Host.Outcome State Fault Refusal :=
  hostCommand .runSetup tag payload s

/-- START (R53). -/
def execStart (tag : Byte) (payload : List Byte) (s : State) : Host.Outcome State Fault Refusal :=
  hostCommand .start tag payload s

/-- CYCLE (R61). -/
def execCycle (tag : Byte) (payload : List Byte) (s : State) : Host.Outcome State Fault Refusal :=
  hostCommand .cycle tag payload s

/-- HALT (R67). -/
def execHalt (tag : Byte) (payload : List Byte) (s : State) : Host.Outcome State Fault Refusal :=
  hostCommand .halt tag payload s

/-- ABORT (R68). -/
def execAbort (tag : Byte) (payload : List Byte) (s : State) : Host.Outcome State Fault Refusal :=
  hostCommand .abort tag payload s

/-- LOCK_SETUP (R71). -/
def execLockSetup (tag : Byte) (payload : List Byte) (s : State) : Host.Outcome State Fault Refusal :=
  hostCommand .lockSetup tag payload s

/-- REG_MODE (R101). -/
def execRegMode (tag : Byte) (payload : List Byte) (s : State) : Host.Outcome State Fault Refusal :=
  hostCommand .regMode tag payload s

/-- REG_FORCE (R103). -/
def execRegForce (tag : Byte) (payload : List Byte) (s : State) : Host.Outcome State Fault Refusal :=
  hostCommand .regForce tag payload s

/-- REG_BANDS (R104). -/
def execRegBands (tag : Byte) (payload : List Byte) (s : State) : Host.Outcome State Fault Refusal :=
  hostCommand .regBands tag payload s

/-- REG_LIMITS (R105). -/
def execRegLimits (tag : Byte) (payload : List Byte) (s : State) : Host.Outcome State Fault Refusal :=
  hostCommand .regLimits tag payload s

/-- REG_GET (R107). -/
def execRegGet (tag : Byte) (payload : List Byte) (s : State) : Host.Outcome State Fault Refusal :=
  hostCommand .regGet tag payload s

/-- LIGHT_DUTY (R116). -/
def execLightDuty (tag : Byte) (payload : List Byte) (s : State) : Host.Outcome State Fault Refusal :=
  hostCommand .lightDuty tag payload s

/-- LIGHT_GET (R124). -/
def execLightGet (tag : Byte) (payload : List Byte) (s : State) : Host.Outcome State Fault Refusal :=
  hostCommand .lightGet tag payload s

/-- FAULT_CLEAR (R122). -/
def execFaultClear (tag : Byte) (payload : List Byte) (s : State) : Host.Outcome State Fault Refusal :=
  hostCommand .faultClear tag payload s

/-- STAGE_OPEN (R129). -/
def execStageOpen (tag : Byte) (payload : List Byte) (s : State) : Host.Outcome State Fault Refusal :=
  hostCommand .stageOpen tag payload s

/-- STAGE_CLOSE (R132). -/
def execStageClose (tag : Byte) (payload : List Byte) (s : State) : Host.Outcome State Fault Refusal :=
  hostCommand .stageClose tag payload s

/-- STAGE_LAUNCH (R133). -/
def execStageLaunch (tag : Byte) (payload : List Byte) (s : State) : Host.Outcome State Fault Refusal :=
  hostCommand .stageLaunch tag payload s

/-- STAGE_DROP (R135). -/
def execStageDrop (tag : Byte) (payload : List Byte) (s : State) : Host.Outcome State Fault Refusal :=
  hostCommand .stageDrop tag payload s

/-- STAGE_LAYOUT (R127). -/
def execStageLayout (tag : Byte) (payload : List Byte) (s : State) : Host.Outcome State Fault Refusal :=
  hostCommand .stageLayout tag payload s

/-- STAGE_ALTERNATE (R141). -/
def execStageAlternate (tag : Byte) (payload : List Byte) (s : State) : Host.Outcome State Fault Refusal :=
  hostCommand .stageAlternate tag payload s

/-- STAGE_GET (R145). -/
def execStageGet (tag : Byte) (payload : List Byte) (s : State) : Host.Outcome State Fault Refusal :=
  hostCommand .stageGet tag payload s

/-- RESULT_READ (R151). -/
def execResultRead (tag : Byte) (payload : List Byte) (s : State) : Host.Outcome State Fault Refusal :=
  hostCommand .resultRead tag payload s

/-- RESULT_FLUSH (R153). -/
def execResultFlush (tag : Byte) (payload : List Byte) (s : State) : Host.Outcome State Fault Refusal :=
  hostCommand .resultFlush tag payload s

/-- RESULT_THRESHOLD (R154). -/
def execResultThreshold (tag : Byte) (payload : List Byte) (s : State) : Host.Outcome State Fault Refusal :=
  hostCommand .resultThreshold tag payload s

/-- STANDBY (R175). -/
def execStandby (tag : Byte) (payload : List Byte) (s : State) : Host.Outcome State Fault Refusal :=
  hostCommand .standby tag payload s

/-- WAKE (R176). -/
def execWake (tag : Byte) (payload : List Byte) (s : State) : Host.Outcome State Fault Refusal :=
  hostCommand .wake tag payload s

/-- SUPPLY_SETUP (R179). -/
def execSupplySetup (tag : Byte) (payload : List Byte) (s : State) : Host.Outcome State Fault Refusal :=
  hostCommand .supplySetup tag payload s

end Sys2Proof.Machine
end

