-- ==== Sys2Proof/Machine/Events.lean ====
section
/-!
DEFINITION. The events of the part's pins, timers and link, one meaning each. While the part is in reset
nothing acts but the reset's own events and the levels of the input pins (R172; log entry 12).
-/

namespace Sys2Proof.Machine

/-- An event of an input pin whose level the part holds: in reset only the level is taken, which reset
completion reads (R125; log entry 12). -/
def pinEvent (level f : State → State) (s : State) : Host.Outcome State Fault Refusal :=
  .next (if s.resetCause.isSome then level s else settle (f s))

/-- FRAME_RECEIVED (R160). -/
def execFrameReceived (bytes : List Byte) (s : State) : Host.Outcome State Fault Refusal :=
  event (receiveFrame bytes) s

/-- BYTE_RECEIVED (R158). -/
def execByteReceived (b : Byte) (s : State) : Host.Outcome State Fault Refusal :=
  event (receiveByte b) s

/-- FRAMING_ERROR (R159). -/
def execFramingError (held : Bool) (s : State) : Host.Outcome State Fault Refusal :=
  event (framingErrorSeen held) s

/-- GAP_TIMER_EXPIRY (R159). -/
def execGapTimerExpiry (s : State) : Host.Outcome State Fault Refusal :=
  event gapTimerExpires s

/-- LINE_RETURN_TO_IDLE (R159). -/
def execLineReturnToIdle (s : State) : Host.Outcome State Fault Refusal :=
  event lineIdle s

/-- FRAME_SENT (R164). -/
def execFrameSent (s : State) : Host.Outcome State Fault Refusal :=
  event frameSentEvent s

/-- FULL_RESET (R171). -/
def execFullReset (s : State) : Host.Outcome State Fault Refusal :=
  event fullResetEvent s

/-- POWER_ON (R172). -/
def execPowerOn (s : State) : Host.Outcome State Fault Refusal :=
  .next (fullReset .power s)

/-- RSTN_LOW (R172). -/
def execRstnLow (s : State) : Host.Outcome State Fault Refusal :=
  .next (fullReset .pin s)

/-- RESET_COMPLETION (R172). -/
def execResetCompletion (s : State) : Host.Outcome State Fault Refusal :=
  .next (completeReset s)

/-- PACER_EXPIRY (R49). -/
def execPacerExpiry (s : State) : Host.Outcome State Fault Refusal :=
  event pacerExpiry s

/-- ENC_EDGE (R50). -/
def execEncEdge (s : State) : Host.Outcome State Fault Refusal :=
  event encoderEdge s

/-- ENCODER_COUNTER_ZERO (R50). -/
def execEncoderCounterZero (s : State) : Host.Outcome State Fault Refusal :=
  event encoderZero s

/-- TRIG_ACTIVE_EDGE (R51). -/
def execTrigActiveEdge (s : State) : Host.Outcome State Fault Refusal :=
  pinEvent (setTrig true) trigActiveEdge s

/-- TRIG_INACTIVE_EDGE (R56). -/
def execTrigInactiveEdge (s : State) : Host.Outcome State Fault Refusal :=
  pinEvent (setTrig false) trigInactiveEdge s

/-- SYNC_EDGE (R72). -/
def execSyncEdge (direction : Polarity) (s : State) : Host.Outcome State Fault Refusal :=
  event (syncEdge direction) s

/-- WATCH_EXPIRY (R73). -/
def execWatchExpiry (s : State) : Host.Outcome State Fault Refusal :=
  event watchExpiry s

/-- PHASE_DELAY_END (R76). -/
def execPhaseDelayEnd (s : State) : Host.Outcome State Fault Refusal :=
  event phaseDelayEnd s

/-- FLASH_START (R25). -/
def execFlashStart (s : State) : Host.Outcome State Fault Refusal :=
  event flashStart s

/-- FIRING_END (R27). -/
def execFiringEnd (light : Light) (s : State) : Host.Outcome State Fault Refusal :=
  event (firingEnd light) s

/-- FLASH_END (R31). -/
def execFlashEnd (charges : Quad Nat) (markers : LineSet) (s : State) : Host.Outcome State Fault Refusal :=
  event (flashEnd charges markers) s

/-- TAIL_END (R35). -/
def execTailEnd (s : State) : Host.Outcome State Fault Refusal :=
  event tailEnd s

/-- GAP_END (R36). -/
def execGapEnd (s : State) : Host.Outcome State Fault Refusal :=
  event gapEnd s

/-- DUTY_TIMER_EXPIRY (R115). -/
def execDutyTimerExpiry (s : State) : Host.Outcome State Fault Refusal :=
  event dutyTimerExpiry s

/-- FAULT_ARRIVAL (R117). -/
def execFaultArrival (light : Light) (s : State) : Host.Outcome State Fault Refusal :=
  pinEvent (setFaultLine light true) (faultArrival light) s

/-- SETTLE_EXPIRY (R178). -/
def execSettleExpiry (s : State) : Host.Outcome State Fault Refusal :=
  event settleExpiry s

/-- FAULT_LINE_RETURN_TO_INACTIVE (R117). -/
def execFaultLineReturnToInactive (light : Light) (s : State) : Host.Outcome State Fault Refusal :=
  pinEvent (setFaultLine light false) (faultLineReturn light) s

end Sys2Proof.Machine
end

