-- ==== Sys2Proof/Machine/Dispatch.lean ====
section
/-!
DEFINITION. One arm for each constructor of Instr.
-/

namespace Sys2Proof.Machine

/-- The effect of a command or event on everything but the queue of those that wait. -/
def exec (i : Instr) (s : State) : Host.Outcome State Fault Refusal :=
  match i with
  | .identify tag payload => Sys2Proof.Machine.execIdentify tag payload s
  | .status tag payload => Sys2Proof.Machine.execStatus tag payload s
  | .reportMask tag payload => Sys2Proof.Machine.execReportMask tag payload s
  | .resetRun tag => Sys2Proof.Machine.execResetRun tag s
  | .resetFull tag => Sys2Proof.Machine.execResetFull tag s
  | .unknownCode code tag payload => Sys2Proof.Machine.execUnknownCode code tag payload s
  | .shotPut tag payload => Sys2Proof.Machine.execShotPut tag payload s
  | .shotGet tag payload => Sys2Proof.Machine.execShotGet tag payload s
  | .seqSelect tag payload => Sys2Proof.Machine.execSeqSelect tag payload s
  | .tableClear tag payload => Sys2Proof.Machine.execTableClear tag payload s
  | .fire tag payload => Sys2Proof.Machine.execFire tag payload s
  | .senseSet tag payload => Sys2Proof.Machine.execSenseSet tag payload s
  | .senseGet tag payload => Sys2Proof.Machine.execSenseGet tag payload s
  | .runSetup tag payload => Sys2Proof.Machine.execRunSetup tag payload s
  | .start tag payload => Sys2Proof.Machine.execStart tag payload s
  | .cycle tag payload => Sys2Proof.Machine.execCycle tag payload s
  | .halt tag payload => Sys2Proof.Machine.execHalt tag payload s
  | .abort tag payload => Sys2Proof.Machine.execAbort tag payload s
  | .lockSetup tag payload => Sys2Proof.Machine.execLockSetup tag payload s
  | .regMode tag payload => Sys2Proof.Machine.execRegMode tag payload s
  | .regForce tag payload => Sys2Proof.Machine.execRegForce tag payload s
  | .regBands tag payload => Sys2Proof.Machine.execRegBands tag payload s
  | .regLimits tag payload => Sys2Proof.Machine.execRegLimits tag payload s
  | .regGet tag payload => Sys2Proof.Machine.execRegGet tag payload s
  | .lightDuty tag payload => Sys2Proof.Machine.execLightDuty tag payload s
  | .lightGet tag payload => Sys2Proof.Machine.execLightGet tag payload s
  | .faultClear tag payload => Sys2Proof.Machine.execFaultClear tag payload s
  | .stageOpen tag payload => Sys2Proof.Machine.execStageOpen tag payload s
  | .stageClose tag payload => Sys2Proof.Machine.execStageClose tag payload s
  | .stageLaunch tag payload => Sys2Proof.Machine.execStageLaunch tag payload s
  | .stageDrop tag payload => Sys2Proof.Machine.execStageDrop tag payload s
  | .stageLayout tag payload => Sys2Proof.Machine.execStageLayout tag payload s
  | .stageAlternate tag payload => Sys2Proof.Machine.execStageAlternate tag payload s
  | .stageGet tag payload => Sys2Proof.Machine.execStageGet tag payload s
  | .resultRead tag payload => Sys2Proof.Machine.execResultRead tag payload s
  | .resultFlush tag payload => Sys2Proof.Machine.execResultFlush tag payload s
  | .resultThreshold tag payload => Sys2Proof.Machine.execResultThreshold tag payload s
  | .standby tag payload => Sys2Proof.Machine.execStandby tag payload s
  | .wake tag payload => Sys2Proof.Machine.execWake tag payload s
  | .supplySetup tag payload => Sys2Proof.Machine.execSupplySetup tag payload s
  | .frameReceived bytes => Sys2Proof.Machine.execFrameReceived bytes s
  | .byteReceived b => Sys2Proof.Machine.execByteReceived b s
  | .framingError held => Sys2Proof.Machine.execFramingError held s
  | .gapTimerExpiry => Sys2Proof.Machine.execGapTimerExpiry s
  | .lineReturnToIdle => Sys2Proof.Machine.execLineReturnToIdle s
  | .frameSent => Sys2Proof.Machine.execFrameSent s
  | .fullReset => Sys2Proof.Machine.execFullReset s
  | .powerOn => Sys2Proof.Machine.execPowerOn s
  | .rstnLow => Sys2Proof.Machine.execRstnLow s
  | .resetCompletion => Sys2Proof.Machine.execResetCompletion s
  | .pacerExpiry => Sys2Proof.Machine.execPacerExpiry s
  | .encEdge => Sys2Proof.Machine.execEncEdge s
  | .encoderCounterZero => Sys2Proof.Machine.execEncoderCounterZero s
  | .trigActiveEdge => Sys2Proof.Machine.execTrigActiveEdge s
  | .trigInactiveEdge => Sys2Proof.Machine.execTrigInactiveEdge s
  | .syncEdge direction => Sys2Proof.Machine.execSyncEdge direction s
  | .watchExpiry => Sys2Proof.Machine.execWatchExpiry s
  | .phaseDelayEnd => Sys2Proof.Machine.execPhaseDelayEnd s
  | .flashStart => Sys2Proof.Machine.execFlashStart s
  | .firingEnd light => Sys2Proof.Machine.execFiringEnd light s
  | .flashEnd charges markers => Sys2Proof.Machine.execFlashEnd charges markers s
  | .tailEnd => Sys2Proof.Machine.execTailEnd s
  | .gapEnd => Sys2Proof.Machine.execGapEnd s
  | .dutyTimerExpiry => Sys2Proof.Machine.execDutyTimerExpiry s
  | .faultArrival light => Sys2Proof.Machine.execFaultArrival light s
  | .settleExpiry => Sys2Proof.Machine.execSettleExpiry s
  | .faultLineReturnToInactive light => Sys2Proof.Machine.execFaultLineReturnToInactive light s

end Sys2Proof.Machine
end

