-- ==== Sys2Proof/Machine/Step.lean ====
section
/-!
DEFINITION. One step of the block, and the placing of a command at the front of its queue.
-/

namespace Sys2Proof.Machine

/-- The command at the front of the queue is taken and acts; on an empty queue 1 µs passes (DESIGN CHOICE,
log entry 4). -/
def step (s : State) : Host.Outcome State Fault Refusal :=
  match s.pending with
  | [] => .next (passTime s)
  | c :: rest => exec c { s with pending := rest }

/-- The state with the command that a word spells put at the front of its queue; unchanged where the word
spells none. -/
def State.withFetchWord (s : State) (nbits w : Nat) : State :=
  match decodeTableWord nbits w with
  | some c => { s with pending := c :: s.pending }
  | none => s

end Sys2Proof.Machine
end

