-- ==== Sys2Proof/Safety.lean ====
section
/-!
DEFINITION. What a sound state of the block is: one predicate for each block, each kept by every step. They
are the laws the spec's rules state about what always holds.
-/

namespace Sys2Proof.Safety

open Sys2Proof.Machine

/-! ### Level regulators (R82, R83, R104, R105) -/

/-- A regulator's state agrees with its mode (R82). -/
def stateFitsMode (m : RegMode) (st : RegState) : Bool :=
  match m with
  | .off => st == .off
  | .manual => st == .manual
  | .auto => st == .converging || st == .stable || st == .satHigh || st == .satLow

/-- One regulator: state and mode agree (R82), the limits and the bands are legal (R105, R104) and the
actuators lie within the limits, on the band (R83). -/
abbrev RegulatorSound (r : Regulator) : Prop :=
  stateFitsMode r.mode r.state = true ∧ limitsValid r.limits = true ∧ bandsValid r.bands = true ∧
  forceFits r.limits r.duration r.current = true

/-- Every regulator is sound. -/
def RegulatorsSound (s : State) : Prop := ∀ l : Light, RegulatorSound (s.regs.get l)

/-! ### Heat (R110, R114) -/

/-- One light's heat account: the limit is 1 to 4,000,000 and heat never exceeds 4,000,000 (R110). -/
abbrev HeatSound (c : LightChannel) : Prop :=
  1 ≤ c.heatLimit ∧ c.heatLimit ≤ 4000000 ∧ c.heat ≤ 4000000

/-- Every heat account is sound. -/
def HeatsSound (s : State) : Prop := ∀ l : Light, HeatSound (s.lights.channels.get l)

/-- Out of reset a light whose faulted is no has an inactive line (R117, R125). -/
def LinesLatched (s : State) : Prop :=
  s.resetCause = none → ∀ l : Light, hasLight s.pins.faultLines l = true →
    (s.lights.channels.get l).faulted = true

/-! ### Shot Table and Result Queue (R1, R9, R149, R154) -/

/-- `count` never exceeds 128 and every defined entry is valid (R1, R9). -/
def TableSound (s : State) : Prop :=
  s.table.count ≤ 128 ∧ ∀ e ∈ s.table.entries, entryValid e = true

/-- The Result Queue never holds more than 512 records, lost stays in 32 bits and the threshold in 1 to 512
(R149, R150, R154). -/
def ResultsSound (s : State) : Prop :=
  s.results.count ≤ 512 ∧ s.results.lost ≤ 4294967295 ∧ 1 ≤ s.results.threshold ∧ s.results.threshold ≤ 512

/-! ### Sense Front End (section 2.5) -/

/-- The integrators stay within full scale, and the last readings and the baselines are 0 to 65535 (R28, R29). -/
def SenseSound (s : State) : Prop :=
  ∀ i : Fin 4, s.sense.integrators.get i ≤ 20000000 ∧ s.sense.readings.get i ≤ 65535 ∧
    s.sense.baselines.get i ≤ 65535

/-! ### Stage Unit (R126, R127, R128, section 7.6) -/

/-- The layout's starts are ordered within the 64 slots (R127). -/
abbrev LayoutSound (l : StageLayout) : Prop := l.start1 ≤ l.start2 ∧ l.start2 ≤ l.start3 ∧ l.start3 ≤ 64

/-- A captured record is a stageable command that passed its capture checks (R126, R130). -/
def RecordSound (r : StageRecord) : Prop :=
  ∃ c, commandOfCode r.code = some c ∧ isStageable c = true ∧ captureCheck c r.payload = none

/-- One bank: no more records than its capacity, none when EMPTY, each as captured (R126, R128). -/
def BankSound (capacity : Nat) (b : Bank) : Prop :=
  b.records.length ≤ capacity ∧ (b.state = .empty → b.records = []) ∧ ∀ r ∈ b.records, RecordSound r

/-- The alternation names two different READY banks, with periods and remaining in range (section 7.6). -/
def AlternationSound (u : StageUnit) : Prop :=
  ∀ r, u.alternation = some r →
    r.a ≠ r.b ∧ (u.banks.get r.a).state = .ready ∧ (u.banks.get r.b).state = .ready ∧
    1 ≤ r.periodA ∧ r.periodA ≤ 255 ∧ 1 ≤ r.periodB ∧ r.periodB ≤ 255 ∧ r.remaining ≤ 255

/-- At most one bank is OPEN (R128). -/
abbrev OneOpen (u : StageUnit) : Prop :=
  ∀ a b : Fin 4, (u.banks.get a).state = .opened → (u.banks.get b).state = .opened → a = b

/-- The Stage Unit is sound. -/
def StageSound (s : State) : Prop :=
  LayoutSound s.stage.layout ∧ (∀ b, BankSound (bankCapacity s.stage.layout b) (s.stage.banks.get b)) ∧
  OneOpen s.stage ∧ AlternationSound s.stage

/-! ### Supply and sync watch (R174, R73) -/

/-- The settle timer runs exactly in WAKING, and SUPEN is high exactly in WAKING and OPERATE (R174). -/
def SupplySound (s : State) : Prop :=
  (s.supply.settleTimer.isSome = true ↔ s.supply.mode = .waking) ∧
  (s.supply.supen = true ↔ s.supply.mode ≠ .standby)

/-- The watch timer runs exactly while `sync_ok` is set (R73). -/
def WatchSound (s : State) : Prop := s.lock.watch.isSome = true ↔ s.lock.syncOk = true

/-! ### Link Port (section 9.1, R161, R164, R171, R172) -/

/-- The queues are within their capacities and the counters within 16 bits (section 9.1). -/
def LinkBounds (k : LinkPort) : Prop :=
  k.commands.length ≤ 4 ∧ k.replies.length ≤ 4 ∧ k.reports.length ≤ 16 ∧
  k.linkErrors ≤ 65535 ∧ k.framesDropped ≤ 65535 ∧ k.reportsLost ≤ 65535

/-- The gap timer runs exactly while a partial frame is assembled (R159). -/
def ReceiverSound (k : LinkPort) : Prop := k.gapTimer.isSome = true ↔ k.receiver ≠ .hunting

/-- Between events nothing is left to do: an idle transmitter has no frame to send, and no command waits
that the executor could take (R164, R161); the executor is held only while a frame is sent (R171). -/
def Settled (k : LinkPort) : Prop :=
  (k.sending = none → k.replies = [] ∧ k.reports = []) ∧
  (k.commands = [] ∨ k.executor = .holding ∨ 4 ≤ k.replies.length) ∧
  (k.executor = .holding → k.sending ≠ none)

/-- The Link Port is sound: bounded, settled, and at its full-reset value while the part is in reset. -/
def LinkSound (s : State) : Prop :=
  LinkBounds s.link ∧ ReceiverSound s.link ∧ Settled s.link ∧
  (s.resetCause.isSome = true → s.link = LinkPort.reset)

/-! ### The run, the sequencer, the hold and the supply together -/

/-- A run is active in the states in which the pacer may run (R49). -/
def pacerState (r : RunState) : Bool :=
  match r with
  | .idle => false
  | .armed => false
  | .delaying => true
  | .running => true
  | .finishing => true
  | .paused => true

/-- The states of the Run Controller, the Shot Sequencer, the hold and the supply agree. -/
structure Coherent (s : State) : Prop where
  /-- A shot is in flight exactly in SHOOTING and TESTING (R21). -/
  shot_in_flight : s.seq.shot.isSome = true ↔ s.seq.state = .shooting ∨ s.seq.state = .testing
  /-- A test shot is in flight exactly in TESTING (R21). -/
  test_shot : ∀ sh, s.seq.shot = some sh → (sh.test = true ↔ s.seq.state = .testing)
  /-- The integrators run exactly in the flash phase of a shot (R28). -/
  integrates_in_flash : s.sense.integrating = true ↔ ∃ sh, s.seq.shot = some sh ∧ sh.phase = .flash
  /-- There is a hold exactly in WAIT_SYNC (section 4.1). -/
  held : s.lock.hold ≠ .none ↔ s.seq.state = .waitSync
  /-- In IDLE no cycle is in progress (R37, R68). -/
  idle_rest : s.run.state = .idle → s.seq.state = .quiet ∨ s.seq.state = .testing
  /-- A test shot runs in IDLE only (R41). -/
  testing_idle : s.seq.state = .testing → s.run.state = .idle
  /-- No cycle is in progress in ARMED and DELAYING (R45). -/
  before_cycles : s.run.state = .armed ∨ s.run.state = .delaying → s.seq.state = .quiet
  /-- The run is PAUSED exactly while a cycle is SUSPENDED (R66). -/
  paused_suspended : s.run.state = .paused ↔ s.seq.state = .suspended
  /-- Runs and test shots take place only in OPERATE (R26). -/
  needs_operate : s.run.state ≠ .idle ∨ s.seq.state = .testing → s.supply.mode = .operate
  /-- `seq_start` is below `count` outside IDLE (R10). -/
  start_defined : s.run.state ≠ .idle → s.table.seqStart < s.table.count
  /-- The entry after a shot that is not the last is defined (R11). -/
  next_defined : s.seq.state = .shooting ∨ s.seq.state = .suspended →
    s.seq.lastEntry = false → s.seq.cursor + 1 < s.table.count
  /-- A FINISHING run with no cycles left to accept has one in progress (R64). -/
  finishing_busy : s.run.state = .finishing → s.run.afterLeft = 0 → s.seq.state ≠ .quiet
  /-- The pacer runs exactly under cycle source PACER from start event to run end (R49). -/
  pacer_runs : s.run.pacer.isSome = true ↔
    s.run.setup.cycleSource = .pacer ∧ pacerState s.run.state = true
  /-- The encoder counter stays in 1 to span (section 3.1). -/
  encoder_range : 1 ≤ s.run.encoder ∧ s.run.encoder ≤ s.run.setup.encoderSpan

/-- A light is on only in the flash phase of a shot in flight that fired it, not faulted, its regulator not
OFF and the supply in OPERATE (R111). -/
def LampSafe (s : State) : Prop :=
  ∀ l : Light, (s.lights.channels.get l).on = true →
    (∃ sh, s.seq.shot = some sh ∧ sh.phase = .flash ∧ hasLight sh.fired l = true) ∧
    (s.lights.channels.get l).faulted = false ∧ (s.regs.get l).mode ≠ .off ∧ s.supply.mode = .operate

/-- The run is coherent and its lights are safe. -/
def RunSound (s : State) : Prop := Coherent s ∧ LampSafe s

/-! ### When a host command is taken in the event of its arrival -/

/-- The part is out of reset, the executor idle, no command waits, the Reply Queue has room and an idle
transmitter has nothing to send: a host command that arrives is taken and answered in its own event
(R161). -/
abbrev Ready (s : State) : Prop :=
  s.resetCause = none ∧ s.link.executor = .idle ∧ s.link.commands = [] ∧ s.link.replies.length < 4 ∧
  (s.link.sending = none → s.link.replies = [] ∧ s.link.reports = [])

/-- The part is out of reset and its queues are settled: an idle transmitter has nothing to send, and no
command waits that the executor could take. An event acts, and then the transmitter may begin a report
(R161, R164). -/
abbrev Resting (s : State) : Prop :=
  s.resetCause = none ∧ (s.link.sending = none → s.link.replies = [] ∧ s.link.reports = []) ∧
  (s.link.commands = [] ∨ s.link.executor = .holding ∨ 4 ≤ s.link.replies.length)

/-- No stage bank is OPEN: a stageable command is executed directly (R161). -/
abbrev NoOpen (s : State) : Prop := ∀ b : Fin 4, (s.stage.banks.get b).state ≠ .opened

/-- The alternation record names the bank; a READY bank it names is in rotation (R128). -/
def Named (u : StageUnit) (b : Fin 4) : Prop := ∃ r, u.alternation = some r ∧ (r.a = b ∨ r.b = b)

/-- A cycle opened and begun at entry `e` of `seq_start` with no bank due: its record is empty, its number one
above the last, and its first shot is in LEAD with the entry's lines driven (R22, R23, R24). -/
def cycleBegun (e : ShotEntry) (unlocked : Bool) (s : State) : State :=
  { s with
    seq.state := .shooting
    seq.shot := some (leadShot s.table.seqStart e false)
    seq.cursor := s.table.seqStart
    seq.cycleNumber := (s.seq.cycleNumber + 1) % 4294967296
    seq.position := 0
    seq.shotsRun := 0
    seq.missedDuring := 0
    seq.flags := { CycleFlags.clear with unlocked := unlocked }
    seq.lastEntry := isLastEntry s.table s.table.seqStart e
    seq.cameras := e.cameras
    seq.aux := e.aux }

/-- A shot put into LEAD goes on to flash start at once when its entry's lead is 0 (R24). -/
def leadPassed (e : ShotEntry) (s : State) : State := if e.lead = 0 then flashStart s else s

/-- No bank is due at a cycle begin: none is PENDING and there is no alternation (R138). -/
abbrev NothingDue (s : State) : Prop :=
  s.stage.alternation = none ∧ ∀ b : Fin 4, (s.stage.banks.get b).state ≠ .pending

/-- The reply with the code, the tag and the payload given joins the Reply Queue, and the transmitter makes
its choice (R162, R164). -/
def replied (code tag : Byte) (payload : List Byte) (s : State) : State :=
  startSend (pushReply ⟨code, tag, payload⟩ s)

/-- The payload length of each command (11_message_layouts.md section 11.3.1). -/
def payloadLength (c : Command) : Nat :=
  match c with
  | .identify => 0
  | .status => 0
  | .reportMask => 1
  | .reset => 1
  | .shotPut => 20
  | .shotGet => 1
  | .seqSelect => 1
  | .tableClear => 0
  | .fire => 1
  | .senseSet => 8
  | .senseGet => 0
  | .runSetup => 21
  | .start => 0
  | .cycle => 0
  | .halt => 0
  | .abort => 0
  | .lockSetup => 7
  | .regMode => 2
  | .regForce => 5
  | .regBands => 17
  | .regLimits => 15
  | .regGet => 1
  | .lightDuty => 7
  | .lightGet => 1
  | .faultClear => 1
  | .stageOpen => 1
  | .stageClose => 0
  | .stageLaunch => 1
  | .stageDrop => 1
  | .stageLayout => 3
  | .stageAlternate => 5
  | .stageGet => 0
  | .resultRead => 1
  | .resultFlush => 0
  | .resultThreshold => 2
  | .standby => 0
  | .wake => 0
  | .supplySetup => 2

end Sys2Proof.Safety
end

