-- ==== Sys2Proof/Certificates/Slice0/Obligations.lean ====
section
/-!
DEFINITION. The statements for the provers, grouped by the chapters of the spec. `Ready`, `Resting`, `NoOpen`,
`replied` and the invariants are defined in Sys2Proof/Safety.lean. A host command's row is the arrival of its
checked frame; at a Ready part it is taken and answered in the same event (log entries 5 and 6), which is where
the statements of its effect place it.
-/

open Sys2Proof Sys2Proof.Machine Sys2Proof.Safety

/-! ### The queue of commands -/

/-- Step takes the command at the front of the queue and is exec of it on the queue's rest. -/
def Obligations.StepTakesFront : Prop :=
  ∀ (c : Instr) (rest : List Instr) (s : State),
    step { s with pending := c :: rest } = exec c { s with pending := rest }

/-- Every command and event answers a next state, and none touches the queue of those that wait. -/
def Obligations.ExecAnswersNext : Prop :=
  ∀ (c : Instr) (s : State), ∃ t, exec c s = .next t ∧ t.pending = s.pending

/-- On an empty queue 1 µs passes (the model's choice, log entry 4): every running timer has 1 µs less,
no timer starts or stops, an integrator that runs takes the charge of its photocurrent (R28: in nA·µs, to at most
20 µA for 1000 µs; how the current is told is log entry 10), and nothing else of the part changes. -/
def Obligations.IdleStepPassesTime : Prop :=
  ∀ s : State, s.pending = [] →
    ∃ t, step s = .next t ∧
      t = { s with link := t.link, run := t.run, lock := t.lock, supply := t.supply, seq := t.seq,
                   lights := t.lights, sense := t.sense } ∧
      t.sense = { s.sense with integrators := t.sense.integrators } ∧
      (∀ i, t.sense.integrators.get i =
        if s.sense.integrating = true
        then min (20000 * 1000) (s.sense.integrators.get i + s.pins.photocurrents.get i * 1)
        else s.sense.integrators.get i) ∧
      t.link = { s.link with gapTimer := s.link.gapTimer.map (· - 1) } ∧
      t.run = { s.run with pacer := s.run.pacer.map (· - 1) } ∧
      t.lock = { s.lock with watch := s.lock.watch.map (· - 1), hold := t.lock.hold } ∧
      (t.lock.hold = match s.lock.hold with | .phase n => .phase (n - 1) | h => h) ∧
      t.supply = { s.supply with settleTimer := s.supply.settleTimer.map (· - 1) } ∧
      t.seq = { s.seq with shot := s.seq.shot.map fun sh => { sh with timeLeft := sh.timeLeft - 1 } } ∧
      t.lights.dutyTimer = s.lights.dutyTimer.map (· - 1) ∧
      ∀ l, t.lights.channels.get l =
        { s.lights.channels.get l with
          firing := (s.lights.channels.get l).firing.map fun f => { f with timeLeft := f.timeLeft - 1 } }

/-! ### Reports, replies and the transmit line (09_the_link_port.md) -/

/-- R165 for the seven maskable kinds: a masked kind is not queued and no counter changes; a kind that is on
joins a Report Queue with room, tag 0; a full queue discards it and counts it. Nothing else changes. The reports of
a change of run state (R69), of supply mode (R180) and of `sync_ok` (R74) carry the fields of section 11.3.2. -/
def Obligations.ReportsRaised : Prop :=
  (∀ (k : ReportKind) (p : List Byte) (s : State),
    (s.link.mask.getLsbD (reportBit k) = false → raise k p s = s) ∧
    (s.link.mask.getLsbD (reportBit k) = true → s.link.reports.length < 16 →
      raise k p s = { s with link.reports := s.link.reports ++ [⟨reportCode k, 0#8, p⟩] }) ∧
    (s.link.mask.getLsbD (reportBit k) = true → 16 ≤ s.link.reports.length →
      raise k p s = { s with link.reportsLost := min (s.link.reportsLost + 1) 65535 })) ∧
  (∀ (now : RunState) (cause : RunCause) (s : State),
    changeRun now cause s =
      raise .runState ([runStateCode now, runStateCode s.run.state, runCauseCode cause] ++
        le4 s.seq.cycleNumber ++ le4 s.run.cycleCount ++ le4 s.run.missed ++
        [if cause = .stop ∨ cause = .runEnd then stopKindCode s.run.stopKind else 0#8])
        { s with run.state := now }) ∧
  (∀ (mode : SupplyMode) (cause : SupplyCause) (s : State),
    changeSupply mode cause s =
      raise .supply ([supplyModeCode mode, supplyModeCode s.supply.mode, supplyCauseCode cause] ++
        le1 (if mode = .waking then s.supply.settle else 0))
        { s with supply.mode := mode, supply.supen := decide (mode ≠ .standby) }) ∧
  (∀ (ok : Bool) (s : State),
    changeSync ok s =
      raise .sync ([boolCode ok] ++ le4 s.seq.cycleNumber ++ [runStateCode s.run.state])
        { s with lock.syncOk := ok })

/-- The frame of a host command at every kind of part: taken and answered in its own event by a Ready part,
queued or dropped and counted while the executor cannot take it, not received in reset (R160, R161, R167). -/
def Obligations.CommandFrameArrives : Prop :=
  ∀ (i : Instr) (f : Frame) (s : State), i.hostFrame = some f → f.payload.length ≤ 250 →
    (Ready s → exec i s = .next (startSend (answer f s))) ∧
    (s.resetCause = none → s.link.sending ≠ none →
      (s.link.executor = .holding ∨ 4 ≤ s.link.replies.length) →
      (s.link.commands.length < 4 →
        exec i s = .next { s with link.commands := s.link.commands ++ [f] }) ∧
      (4 ≤ s.link.commands.length →
        exec i s = .next { s with link.framesDropped := min (s.link.framesDropped + 1) 65535 })) ∧
    (s.resetCause ≠ none → exec i s = .next s)

/-- Every taking places exactly one reply in the Reply Queue, with the command's tag and reply code; it
touches no other queued frame, no waiting command and not the frame in transmission (R161, R163). A command that
is refused changes no state of the part, and its reply carries the status alone (R162); statuses 0 (OK) and 1
(STAGED) are the two that do not refuse. -/
def Obligations.OneReplyPerTaking : Prop :=
  (∀ (i : Instr) (f : Frame) (s : State), i.hostFrame = some f → f.payload.length ≤ 250 →
    Ready s → s.link.sending ≠ none →
    ∃ t r, exec i s = .next t ∧
      t.link.replies = s.link.replies ++ [r] ∧ r.tag = f.tag ∧
      r.code = (if f.code.toNat < 128 then f.code + 0x80#8 else f.code) ∧ r.payload ≠ [] ∧
      t.link.commands = [] ∧ t.link.sending = s.link.sending) ∧
  (∀ (f : Frame) (s : State) (status : Byte) (fields : List Byte),
    (execute f s).reply = status :: fields → status ≠ 0#8 → status ≠ 1#8 →
    (execute f s).state = s ∧ fields = [])

/-- The first two checks of R162: a code that names no command (an UNKNOWN_CODE row) is UNKNOWN whatever its
payload, its reply code is the code plus 128 below 128 and the code itself above; a payload of the wrong length is
BAD_LENGTH. -/
def Obligations.CodeAndLengthChecked : Prop :=
  ∀ (i : Instr) (f : Frame) (s : State), i.hostFrame = some f → f.payload.length ≤ 250 → Ready s →
    (commandOfCode f.code = none →
      exec i s = .next (replied (if f.code.toNat < 128 then f.code + 0x80#8 else f.code) f.tag [2#8] s)) ∧
    (∀ c, commandOfCode f.code = some c → f.payload.length ≠ payloadLength c →
      exec i s = .next (replied (f.code + 0x80#8) f.tag [3#8] s))

/-- FRAME_SENT: the transmitter goes idle, then sends the oldest reply, else the oldest report (R164); when a
reply leaves a full Reply Queue the executor takes the oldest waiting command (R161). (That nothing happens with no
frame in transmission is the model's choice, log entry 3.) -/
def Obligations.FrameSentGoesOn : Prop :=
  ∀ s : State, s.resetCause = none →
    (s.link.sending = none → Resting s → exec .frameSent s = .next s) ∧
    (s.link.sending ≠ none → s.link.executor = .idle → s.link.commands = [] →
      (∀ r rs, s.link.replies = r :: rs →
        exec .frameSent s = .next { s with link.replies := rs, link.sending := some (frameBytes r) }) ∧
      (s.link.replies = [] → ∀ r rs, s.link.reports = r :: rs →
        exec .frameSent s = .next { s with link.reports := rs, link.sending := some (frameBytes r) }) ∧
      (s.link.replies = [] → s.link.reports = [] →
        exec .frameSent s = .next { s with link.sending := none })) ∧
    (s.link.sending ≠ none → s.link.executor = .idle →
      ∀ r rs c cs, s.link.replies = r :: rs → rs.length = 3 → s.link.commands = c :: cs →
        exec .frameSent s = .next (answer c
          { s with link.replies := rs, link.sending := some (frameBytes r), link.commands := cs })) ∧
    (s.link.sending ≠ none → s.link.executor = .holding → ∀ r rs, s.link.replies = r :: rs →
      exec .frameSent s = .next { s with link.replies := rs, link.sending := some (frameBytes r) })

/-! ### The receiver (09_the_link_port.md section 9.2) -/

/-- BYTE_RECEIVED by receive state (R158, R159, R160): hunting for the start byte, the LEN check, collecting
with the gap timer restarted at 2 ms, and a whole frame judged by its CHECK: counted in link_errors, dropped at a
full Command Queue, or taken and answered by a Ready part; no byte is taken while the line is waited for. (That the
start byte itself starts the gap timer is the model's deduction, DEDUCED, log entry 28.) -/
def Obligations.ByteReceived : Prop :=
  ∀ (b : Byte) (s : State), Resting s →
    (s.link.waitIdle = true → exec (.byteReceived b) s = .next s) ∧
    (s.link.waitIdle = false → s.link.receiver = .hunting → b ≠ 0xA7#8 →
      exec (.byteReceived b) s = .next s) ∧
    (s.link.waitIdle = false → s.link.receiver = .hunting → b = 0xA7#8 →
      exec (.byteReceived b) s =
        .next { s with link.receiver := .assembling [], link.gapTimer := some 2000 }) ∧
    (s.link.waitIdle = false → s.link.receiver = .assembling [] → b.toNat < 2 ∨ 252 < b.toNat →
      exec (.byteReceived b) s = .next { s with link.receiver := .hunting, link.gapTimer := none }) ∧
    (s.link.waitIdle = false → s.link.receiver = .assembling [] → 2 ≤ b.toNat → b.toNat ≤ 252 →
      exec (.byteReceived b) s =
        .next { s with link.receiver := .assembling [b], link.gapTimer := some 2000 }) ∧
    (∀ len rest, s.link.waitIdle = false → s.link.receiver = .assembling (len :: rest) →
      2 ≤ len.toNat → len.toNat ≤ 252 →
      (rest.length < len.toNat →
        exec (.byteReceived b) s =
          .next { s with link.receiver := .assembling (len :: rest ++ [b]), link.gapTimer := some 2000 }) ∧
      (rest.length = len.toNat → b ≠ crc8 (len :: rest) →
        exec (.byteReceived b) s =
          .next { s with link.receiver := .hunting, link.gapTimer := none,
                         link.linkErrors := min (s.link.linkErrors + 1) 65535 }) ∧
      (rest.length = len.toNat → b = crc8 (len :: rest) → 4 ≤ s.link.commands.length →
        exec (.byteReceived b) s =
          .next { s with link.receiver := .hunting, link.gapTimer := none,
                         link.framesDropped := min (s.link.framesDropped + 1) 65535 }) ∧
      (∀ code tag payload, rest = code :: tag :: payload → rest.length = len.toNat → b = crc8 (len :: rest) →
        Ready s → exec (.byteReceived b) s =
          .next (startSend (answer ⟨code, tag, payload⟩
            { s with link.receiver := .hunting, link.gapTimer := none }))))

/-- FRAME_RECEIVED of the bytes of a frame (11_message_layouts.md section 11.1) with its right CHECK acts
exactly as the command the frame carries, taken and answered by a Ready part; with any other CHECK byte it is
counted in link_errors and nothing else happens (R158, R160, R182). (That FRAME_RECEIVED carries the bytes of the
frame, taken one by one, is the model's choice, log entry 31.) -/
def Obligations.FrameReceivedIsItsCommand : Prop :=
  ∀ (i : Instr) (f : Frame) (s : State), i.hostFrame = some f → f.payload.length ≤ 250 → Resting s →
    s.link.waitIdle = false → s.link.receiver = .hunting → s.link.gapTimer = none →
    exec (.frameReceived (frameBytes f)) s = exec i s ∧
    (Ready s → exec (.frameReceived (frameBytes f)) s = .next (startSend (answer f s))) ∧
    (∀ check : Byte, check ≠ crc8 (frameBody f) →
      exec (.frameReceived (0xA7#8 :: (frameBody f ++ [check]))) s =
        .next { s with link.linkErrors := min (s.link.linkErrors + 1) 65535 })

/-- The line's other events (R159): a framing error discards a partial frame and is counted once while the
line is held; the gap timer's expiry discards a partial frame and counts nothing; the line's return lets bytes
be taken again. (That GAP_TIMER_EXPIRY does nothing with no timer running is the model's choice, log entry 3; that
FRAMING_ERROR carries whether the line stays held is DEDUCED, log entry 11.) -/
def Obligations.LineErrors : Prop :=
  ∀ s : State, Resting s →
    (∀ held, s.link.waitIdle = false →
      exec (.framingError held) s =
        .next { s with link.receiver := .hunting, link.gapTimer := none,
                       link.linkErrors := min (s.link.linkErrors + 1) 65535, link.waitIdle := held }) ∧
    (∀ held, s.link.waitIdle = true → exec (.framingError held) s = .next s) ∧
    (s.link.gapTimer ≠ none →
      exec .gapTimerExpiry s = .next { s with link.receiver := .hunting, link.gapTimer := none }) ∧
    (s.link.gapTimer = none → exec .gapTimerExpiry s = .next s) ∧
    exec .lineReturnToIdle s = .next { s with link.waitIdle := false }

/-! ### The Link Port's own commands (09_the_link_port.md sections 9.4 to 9.6) -/

/-- R168: IDENTIFY answers OK with part code 848, revision 1 and the capacities 128, 512 and 64, in every state
in which it is taken, an OPEN bank included, and changes nothing; a payload is BAD_LENGTH. -/
def Obligations.IdentifyAnswers : Prop :=
  (∀ (tag : Byte) (s : State),
    execute ⟨0x01#8, tag, []⟩ s = ⟨s, 0#8 :: (le2 848 ++ le2 1 ++ le2 128 ++ le2 512 ++ le2 64)⟩) ∧
  (∀ (tag : Byte) (p : List Byte) (s : State), p ≠ [] → execute ⟨0x01#8, tag, p⟩ s = ⟨s, [3#8]⟩) ∧
  (∀ (tag : Byte) (s : State), Ready s →
    exec (.identify tag []) s =
      .next (replied 0x81#8 tag (0#8 :: (le2 848 ++ le2 1 ++ le2 128 ++ le2 512 ++ le2 64)) s))

/-- R169 and section 11.5.4: STATUS answers the 27 bytes of the state found and changes nothing, in every state
in which it is taken. -/
def Obligations.StatusAnswers : Prop :=
  ∀ (tag : Byte) (s : State),
    let bytes := [0#8, supplyModeCode s.supply.mode, runStateCode s.run.state, seqStateCode s.seq.state] ++
      le4 s.seq.cycleNumber ++ le4 s.run.missed ++ le2 s.results.records.length ++ le4 s.results.lost ++
      [lightsWhere fun l => (s.lights.channels.get l).faulted, boolCode s.lock.syncOk,
       bankStateCode (s.stage.banks.get 0).state ||| (bankStateCode (s.stage.banks.get 1).state <<< 2) |||
       (bankStateCode (s.stage.banks.get 2).state <<< 4) ||| (bankStateCode (s.stage.banks.get 3).state <<< 6)] ++
      le2 s.link.linkErrors ++ le2 s.link.framesDropped ++ le2 s.link.reportsLost
    execute ⟨0x02#8, tag, []⟩ s = ⟨s, bytes⟩ ∧ bytes.length = 27 ∧
    (Ready s → exec (.status tag []) s = .next (replied 0x82#8 tag bytes s))

/-- The commands that store settings and touch nothing else, each answering what it stored, and BAD_VALUE outside its
ranges, a light from 8 up among them: REPORT_MASK (R166), SENSE_SET (R29), LIGHT_DUTY (R116), RESULT_THRESHOLD (R154),
SUPPLY_SETUP (R179). -/
def Obligations.SettingsStored : Prop :=
  ∀ (tag : Byte) (s : State), Ready s →
    (∀ m : Byte, m.toNat < 128 →
      exec (.reportMask tag [m]) s = .next (replied 0x83#8 tag [0#8, m] { s with link.mask := m })) ∧
    (∀ m : Byte, 128 ≤ m.toNat → exec (.reportMask tag [m]) s = .next (replied 0x83#8 tag [4#8] s)) ∧
    (∀ q : Quad Nat, (∀ i, q.get i ≤ 65535) →
      exec (.senseSet tag (quad2 q)) s =
        .next (replied 0x99#8 tag (0#8 :: quad2 q) { s with sense.baselines := q })) ∧
    (NoOpen s → ∀ (l : Light) (limit rate : Nat), 1 ≤ limit → limit ≤ 4000000 → rate ≤ 65535 →
      exec (.lightDuty tag (lightCode l :: (le4 limit ++ le2 rate))) s =
        .next (replied 0xB8#8 tag
          ([0#8, lightCode l] ++ le4 limit ++ le2 rate ++ le4 (s.lights.channels.get l).heat)
          (let c : LightChannel := { s.lights.channels.get l with heatLimit := limit, coolRate := rate }
           { s with lights.channels := s.lights.channels.set l c }))) ∧
    (NoOpen s → ∀ (l : Light) (limit rate : Nat), limit = 0 ∨ 4000000 < limit → limit < 4294967296 →
      exec (.lightDuty tag (lightCode l :: (le4 limit ++ le2 rate))) s =
        .next (replied 0xB8#8 tag [4#8] s)) ∧
    (NoOpen s → ∀ (x : Byte) (rest : List Byte), 8 ≤ x.toNat → rest.length = 6 →
      exec (.lightDuty tag (x :: rest)) s = .next (replied 0xB8#8 tag [4#8] s)) ∧
    (∀ n : Nat, 1 ≤ n → n ≤ 512 →
      exec (.resultThreshold tag (le2 n)) s =
        .next (replied 0xCA#8 tag (0#8 :: (le2 n ++ le2 s.results.records.length))
          { s with results.threshold := n })) ∧
    (∀ n : Nat, n = 0 ∨ 512 < n → n ≤ 65535 →
      exec (.resultThreshold tag (le2 n)) s = .next (replied 0xCA#8 tag [4#8] s)) ∧
    (∀ (n : Nat) (w : Bool), 1 ≤ n → n ≤ 100 →
      exec (.supplySetup tag (le1 n ++ [boolCode w])) s =
        .next (replied 0xD2#8 tag (0#8 :: (le1 n ++ [boolCode w, supplyModeCode s.supply.mode]))
          { s with supply.settle := n, supply.wakeOnTrigger := w })) ∧
    (∀ (n : Nat) (w : Byte), n = 0 ∨ 100 < n ∨ 1 < w.toNat → n < 256 →
      exec (.supplySetup tag (le1 n ++ [w])) s = .next (replied 0xD2#8 tag [4#8] s))

/-- R170 with R44, R70, R80, R109, R125, R146, R156: RESET of kind RUN answers OK in the event of its run reset,
which stops the run and the sequencer, empties what the last run produced and keeps every setting. One
RUN_STATE report, cause RESET, is raised exactly when the run state was not IDLE (it carries the counts as they
stood: DEDUCED, log entry 13). The model's, beyond R170's own list: that in IDLE with nothing in flight the encoder
counter is reloaded, the stop kind cleared and `aux_idle` driven all the same (DEDUCED, log entry 23), and that the
last-entry marker is no with no shot in flight (DESIGN CHOICE, log entry 35). -/
def Obligations.RunResetEffect : Prop :=
  ∀ (tag : Byte) (s : State), Ready s →
    ∃ t, exec (.resetRun tag) s = .next (replied 0x84#8 tag [0#8] t) ∧
      t.table = s.table ∧
      t.seq = { s.seq with state := .quiet, shot := none, shotsRun := 0, missedDuring := 0,
                           flags := ⟨false, false, false, false, false⟩, lastEntry := false,
                           cameras := 0#4, aux := s.run.setup.auxIdle } ∧
      t.sense = { s.sense with integrators := ⟨0, 0, 0, 0⟩, integrating := false } ∧
      (∀ l, t.regs.get l =
        { s.regs.get l with
          state := if (s.regs.get l).mode = .auto then .converging else (s.regs.get l).state
          sum := 0, count := 0, clipped := false }) ∧
      t.lights.dutyTimer = s.lights.dutyTimer ∧
      (∀ l, t.lights.channels.get l = { s.lights.channels.get l with firing := none }) ∧
      t.run = { s.run with state := .idle, delayLeft := 0, afterLeft := 0, stopKind := .never, cycleCount := 0,
                           missed := 0, pacer := none, encoder := s.run.setup.encoderSpan } ∧
      t.lock = { s.lock with syncOk := false, watch := none, hold := .none } ∧
      t.stage.layout = s.stage.layout ∧ t.stage.alternation = none ∧
      (∀ b, t.stage.banks.get b =
        { s.stage.banks.get b with
          state := if (s.stage.banks.get b).state = .pending then .ready else (s.stage.banks.get b).state }) ∧
      t.results = { s.results with records := [], lost := 0 } ∧
      t.supply = s.supply ∧ t.pins = s.pins ∧ t.resetCause = none ∧ t.pending = s.pending ∧
      t.link = (if s.run.state = .idle then s
        else raise .runState ([0#8, runStateCode s.run.state, 9#8] ++ le4 s.seq.cycleNumber ++
          le4 s.run.cycleCount ++ le4 s.run.missed ++ [0#8]) s).link

/-- R171 and R172: RESET of kind FULL answers OK and holds the executor, and nothing else changes until the last
byte of its reply has been sent, by FRAME_SENT or its FULL_RESET; then the part takes its full-reset state with
cause COMMAND, every light faulted exactly when its line is active, and sends READY first. FULL_RESET does nothing
while no RESET FULL reply is out. (The reset completes in the same event, and the pins keep their levels: the
model's reading, log entries 2, 8 and 9. The model's choices: that a RUN_STATE report of a RESET RUN still queued is
discarded unsent, R171 followed against R173, log entry 34; and that a wait for a held line ends, log entry 26.) -/
def Obligations.FullResetAfterReply : Prop :=
  ∀ (tag : Byte) (s : State), s.resetCause = none →
    (Ready s →
      exec (.resetFull tag) s = .next (replied 0x84#8 tag [0#8] { s with link.executor := .holding })) ∧
    (s.link.sending ≠ none → s.link.executor = .holding → s.link.replies = [] →
      let t := { State.reset with
        lights := { channels := Octet.ofFn fun l =>
                      { LightChannel.reset with faulted := s.pins.faultLines.getLsbD l.val },
                    dutyTimer := some 1000 }
        link := { LinkPort.reset with sending := some (frameBytes ⟨0xF0#8, 0#8, [3#8]⟩) }
        pins := s.pins
        pending := s.pending }
      exec .frameSent s = .next t ∧ exec .fullReset s = .next t) ∧
    (s.link.executor = .idle ∨ s.link.replies ≠ [] → Resting s → exec .fullReset s = .next s)

/-- R172, R20, R44, R70, R80, R81, R125, R146, R157, R181: a full reset by power-on or RSTN acts at once in every
state, on every block, and leaves the part in reset; nothing but the pins' levels and the waiting commands
stays. (The model's: that the pins keep their levels is a DESIGN CHOICE, log entry 2; that a reset caused in reset
takes the latest cause is a DESIGN CHOICE, log entry 18; that a wait for a held line ends is a DESIGN CHOICE, log
entry 26; that the duty timer stands still in reset is DEDUCED, log entry 29.) -/
def Obligations.HardResetActsAtOnce : Prop :=
  ∀ s : State,
    exec .powerOn s = .next { State.reset with
      lights := LightUnit.reset none, link := LinkPort.reset, pins := s.pins, resetCause := some .power,
      pending := s.pending } ∧
    exec .rstnLow s = .next { State.reset with
      lights := LightUnit.reset none, link := LinkPort.reset, pins := s.pins, resetCause := some .pin,
      pending := s.pending }

/-- R172, R167, R115, R125: at reset completion the duty timer starts at 1 ms, every light is faulted exactly
when its line is active, and READY with the reset's cause is the first frame sent. (The model's: that
nothing happens with no reset in progress is log entry 3; that State.reset is the completion of a power-on with
every line inactive, TRIG low and no photocurrent is log entry 1; that this is so from a part that waits for a held
line, or is already in reset by another cause, is a DESIGN CHOICE each, log entries 26 and 18.) -/
def Obligations.ResetCompletes : Prop :=
  (∀ (c : ResetCause) (s : State), s.resetCause = some c → s.link = LinkPort.reset →
    ∃ t, exec .resetCompletion s = .next t ∧
      t = { s with
        lights := t.lights
        link := { LinkPort.reset with sending := some (frameBytes ⟨0xF0#8, 0#8, [resetCauseCode c]⟩) }
        resetCause := none } ∧
      t.lights.dutyTimer = some 1000 ∧
      ∀ l, t.lights.channels.get l =
        { heat := 0, heatLimit := 200000, coolRate := 100, faulted := s.pins.faultLines.getLsbD l.val,
          firing := none }) ∧
  (∀ s : State, s.resetCause = none → exec .resetCompletion s = .next s) ∧
  (∀ s t : State, s.pins = { trigHigh := false, faultLines := 0#8, photocurrents := ⟨0, 0, 0, 0⟩ } → s.pending = [] →
    exec .powerOn s = .next t → exec .resetCompletion t = .next State.reset)

/-- While the part is in reset nothing acts but the resets themselves and the levels of the pins that reset completion
reads (R167, R172; DEDUCED, log entry 12): an edge of TRIG and a change of a fault line give their pin its new level,
which R125 reads at completion, and change nothing else. -/
def Obligations.InResetNothingActs : Prop :=
  (∀ (i : Instr) (s : State), s.resetCause ≠ none → i ≠ .powerOn → i ≠ .rstnLow → i ≠ .resetCompletion →
    ∃ t, exec i s = .next t ∧ t = { s with pins := t.pins } ∧
      ((∀ l, i ≠ .faultArrival l) → (∀ l, i ≠ .faultLineReturnToInactive l) → i ≠ .trigActiveEdge →
        i ≠ .trigInactiveEdge → t.pins = s.pins)) ∧
  (∀ s : State, s.resetCause ≠ none →
    let rise := decide (s.run.setup.polarity = .rising)
    exec .trigActiveEdge s = .next { s with pins.trigHigh := rise } ∧
    exec .trigInactiveEdge s = .next { s with pins.trigHigh := !rise } ∧
    ∀ l : Light, ∃ up down : LightSet,
      (∀ k : Light, up.getLsbD k.val = (decide (k = l) || s.pins.faultLines.getLsbD k.val)) ∧
      (∀ k : Light, down.getLsbD k.val = (decide (k ≠ l) && s.pins.faultLines.getLsbD k.val)) ∧
      exec (.faultArrival l) s = .next { s with pins.faultLines := up } ∧
      exec (.faultLineReturnToInactive l) s = .next { s with pins.faultLines := down })

/-! ### The Shot Table (01_the_shot_table.md) -/

/-- R9's ten conditions for a valid entry, each with its range (the encodings are in `entryOf`, O21); R13, R14: a
directly executed SHOT_PUT of a valid entry replaces below count and appends at count in IDLE
and ARMED, and answers the index and count; above count it is BAD_VALUE, and in every other run state BUSY. An
invalid entry or an index from 128 up is BAD_VALUE in every run state. -/
def Obligations.ShotPutDirect : Prop :=
  (∀ e : ShotEntry, entryValid e = true ↔
    e.lead ≤ 5000 ∧ (1 ≤ e.window ∧ e.window ≤ 20000) ∧ e.tail ≤ 5000 ∧ (20 ≤ e.gap ∧ e.gap ≤ 1000000) ∧
    (∀ o, e.fixed = some o → o.current ≤ 1023 ∧ 1 ≤ o.duration ∧ o.duration ≤ 20000) ∧
    (∀ l, e.regulate = some l → e.lights.getLsbD l.val = true) ∧
    ¬(e.regulate ≠ none ∧ e.fixed ≠ none) ∧
    (e.baseline = true → e.lights = 0#8 ∧ e.regulate = none) ∧
    ¬(e.pause = true ∧ e.endFlag = true)) ∧
  ∀ (tag : Byte) (i : Nat) (e : ShotEntry) (s : State), Ready s → NoOpen s → i < 256 →
    (entryValid e = true → i ≤ 127 → s.run.state = .idle ∨ s.run.state = .armed →
      (i < s.table.count →
        exec (.shotPut tag (le1 i ++ entryBytes e)) s =
          .next (replied 0x90#8 tag (0#8 :: (le1 i ++ le1 s.table.count))
            { s with table.entries := s.table.entries.set i e })) ∧
      (i = s.table.count →
        exec (.shotPut tag (le1 i ++ entryBytes e)) s =
          .next (replied 0x90#8 tag (0#8 :: (le1 i ++ le1 (s.table.count + 1)))
            { s with table.entries := s.table.entries ++ [e] })) ∧
      (s.table.count < i →
        exec (.shotPut tag (le1 i ++ entryBytes e)) s = .next (replied 0x90#8 tag [4#8] s))) ∧
    (entryValid e = true → i ≤ 127 → s.run.state ≠ .idle → s.run.state ≠ .armed →
      exec (.shotPut tag (le1 i ++ entryBytes e)) s = .next (replied 0x90#8 tag [5#8] s)) ∧
    (entryValid e = true → 127 < i →
      exec (.shotPut tag (le1 i ++ entryBytes e)) s = .next (replied 0x90#8 tag [4#8] s)) ∧
    (∀ bytes : List Byte, bytes.length = 19 → (∀ e', entryOf bytes = some e' → entryValid e' = false) →
      exec (.shotPut tag (le1 i ++ bytes)) s = .next (replied 0x90#8 tag [4#8] s))

/-- The 19 bytes of an entry are those of section 11.5.1, offset by offset: the sets, the flags byte bit by bit, the
light of regulate, then the times and the override, low byte first. They decode to the entry they were made from,
every field at every value a valid entry admits; 19 bytes with flag bit 6 or 7 or a camera bit above 3 set, or
whose regulate byte is not a light, or is not 0 when absent, or whose absent override is not 0, are no entry. -/
def Obligations.EntryRoundTrip : Prop :=
  (∀ e : ShotEntry, entryValid e = true →
    ((entryBytes e).length = 19 ∧ entryOf (entryBytes e) = some e) ∧
    (∃ flags : Byte,
      entryBytes e =
        [e.lights, e.cameras.setWidth 8, e.aux, flags,
         (match e.regulate with | some l => BitVec.ofNat 8 l.val | none => 0#8),
         BitVec.ofNat 8 e.lead, BitVec.ofNat 8 (e.lead / 256),
         BitVec.ofNat 8 e.window, BitVec.ofNat 8 (e.window / 256),
         BitVec.ofNat 8 e.tail, BitVec.ofNat 8 (e.tail / 256),
         BitVec.ofNat 8 e.gap, BitVec.ofNat 8 (e.gap / 256), BitVec.ofNat 8 (e.gap / 65536),
         BitVec.ofNat 8 (e.gap / 16777216)] ++
        (match e.fixed with
         | some o => [BitVec.ofNat 8 o.current, BitVec.ofNat 8 (o.current / 256),
                      BitVec.ofNat 8 o.duration, BitVec.ofNat 8 (o.duration / 256)]
         | none => [0#8, 0#8, 0#8, 0#8]) ∧
      flags.getLsbD 0 = e.skip ∧ flags.getLsbD 1 = e.pause ∧ flags.getLsbD 2 = e.endFlag ∧
      flags.getLsbD 3 = e.baseline ∧ flags.getLsbD 4 = e.regulate.isSome ∧ flags.getLsbD 5 = e.fixed.isSome ∧
      flags.getLsbD 6 = false ∧ flags.getLsbD 7 = false)) ∧
  (∀ bytes : List Byte, bytes.length = 19 →
    16 ≤ byteAt bytes 1 ∨ 64 ≤ byteAt bytes 3 ∨ 8 ≤ byteAt bytes 4 ∨
      ((bytes.getD 3 0#8).getLsbD 4 = false ∧ byteAt bytes 4 ≠ 0) ∨
      ((bytes.getD 3 0#8).getLsbD 5 = false ∧ (word16At bytes 15 ≠ 0 ∨ word16At bytes 17 ≠ 0)) →
    entryOf bytes = none)

/-- R16: SHOT_GET answers the index, the entry's 19 bytes, count and seq_start of a defined entry, and BAD_VALUE
from count up, 128 to 255 among them; it changes nothing, in every run state, supply mode and bank state. -/
def Obligations.ShotGetAnswers : Prop :=
  ∀ (tag : Byte) (i : Nat) (s : State), Ready s → i < 256 →
    (∀ e, s.table.entries[i]? = some e →
      exec (.shotGet tag (le1 i)) s =
        .next (replied 0x91#8 tag
          (0#8 :: (le1 i ++ entryBytes e ++ le1 s.table.count ++ le1 s.table.seqStart)) s)) ∧
    (s.table.count ≤ i → exec (.shotGet tag (le1 i)) s = .next (replied 0x91#8 tag [4#8] s)) ∧
    (s.table.count ≤ 128 → 128 ≤ i → exec (.shotGet tag (le1 i)) s = .next (replied 0x91#8 tag [4#8] s))

/-- R17 and R18: SEQ_SELECT sets seq_start below count in IDLE and ARMED, executed directly with no bank OPEN;
TABLE_CLEAR, never captured, empties the table in IDLE with no test shot, an OPEN bank or none; each refusal as its
rule gives it. Neither touches anything else. -/
def Obligations.SeqSelectAndTableClear : Prop :=
  ∀ (tag : Byte) (s : State), Ready s →
    (NoOpen s →
      (∀ i : Nat, i ≤ 127 → s.run.state = .idle ∨ s.run.state = .armed →
        (i < s.table.count →
          exec (.seqSelect tag (le1 i)) s =
            .next (replied 0x92#8 tag (0#8 :: le1 i) { s with table.seqStart := i })) ∧
        (s.table.count ≤ i → exec (.seqSelect tag (le1 i)) s = .next (replied 0x92#8 tag [4#8] s))) ∧
      (∀ i : Nat, i ≤ 127 → s.run.state ≠ .idle → s.run.state ≠ .armed →
        exec (.seqSelect tag (le1 i)) s = .next (replied 0x92#8 tag [5#8] s)) ∧
      (∀ i : Nat, 127 < i → i < 256 →
        exec (.seqSelect tag (le1 i)) s = .next (replied 0x92#8 tag [4#8] s))) ∧
    (s.run.state = .idle → s.seq.state ≠ .testing →
      exec (.tableClear tag []) s = .next (replied 0x93#8 tag [0#8] { s with table := ⟨[], 0⟩ })) ∧
    (s.run.state ≠ .idle ∨ s.seq.state = .testing →
      exec (.tableClear tag []) s = .next (replied 0x93#8 tag [5#8] s))

/-! ### Staging banks (07_staging_banks.md) -/

/-- R130: with a bank OPEN, each of the seven stageable commands is answered by its capture checks first, then
BANK_FULL, else it is stored as the bank's newest record, code and payload, and answered STAGED; the block it names
is not touched. -/
def Obligations.StageableCaptured : Prop :=
  ∀ (i : Instr) (f : Frame) (c : Command) (b : Fin 4) (s : State), i.hostFrame = some f →
    commandOfCode f.code = some c → isStageable c = true → f.payload.length ≤ 250 → Ready s →
    OneOpen s.stage → (s.stage.banks.get b).state = .opened →
    (∀ st, captureCheck c f.payload = some st →
      exec i s = .next (replied (f.code + 0x80#8) f.tag [statusCode st] s)) ∧
    (captureCheck c f.payload = none →
      bankCapacity s.stage.layout b ≤ (s.stage.banks.get b).records.length →
      exec i s = .next (replied (f.code + 0x80#8) f.tag [8#8] s)) ∧
    (captureCheck c f.payload = none →
      (s.stage.banks.get b).records.length < bankCapacity s.stage.layout b →
      exec i s = .next (replied (f.code + 0x80#8) f.tag
        ([1#8, bankCode b] ++ le1 ((s.stage.banks.get b).records.length + 1))
        (let bank : Bank := ⟨.opened, (s.stage.banks.get b).records ++ [⟨f.code, f.payload⟩]⟩
         { s with stage.banks := s.stage.banks.set b bank })))

/-- R130's table: what the capture checks of the seven kinds ask, the length first, and nothing of the part's
state. The three records of many fields defer to R9, R104 and R105 through `entryValid`, `bandsValid` and
`limitsValid`. -/
def Obligations.CaptureChecks : Prop :=
  ∀ p : List Byte,
    (∀ c, isStageable c = true → (captureCheck c p = some .badLength ↔ p.length ≠ payloadLength c)) ∧
    (∀ c, isStageable c = true → p.length = payloadLength c →
      captureCheck c p = none ∨ captureCheck c p = some .badValue) ∧
    (p.length = 20 → (captureCheck .shotPut p = none ↔
      byteAt p 0 ≤ 127 ∧ ∃ e, entryOf (p.drop 1) = some e ∧ entryValid e = true)) ∧
    (p.length = 1 → (captureCheck .seqSelect p = none ↔ byteAt p 0 ≤ 127)) ∧
    (p.length = 2 → (captureCheck .regMode p = none ↔ byteAt p 0 < 8 ∧ byteAt p 1 < 3)) ∧
    (p.length = 5 → (captureCheck .regForce p = none ↔
      byteAt p 0 < 8 ∧ 1 ≤ word16At p 1 ∧ word16At p 1 ≤ 20000 ∧ word16At p 3 ≤ 1023)) ∧
    (p.length = 17 → (captureCheck .regBands p = none ↔
      byteAt p 0 < 8 ∧ bandsValid ⟨word16At p 1, word16At p 3, word16At p 5, word16At p 7, word16At p 9,
        word16At p 11, ⟨byteAt p 13, byteAt p 14, byteAt p 15, byteAt p 16⟩⟩ = true)) ∧
    (p.length = 15 → (captureCheck .regLimits p = none ↔
      byteAt p 0 < 8 ∧ limitsValid ⟨word16At p 1, word16At p 3, word16At p 5, word16At p 7, word16At p 9,
        byteAt p 11, byteAt p 12, word16At p 13⟩ = true)) ∧
    (p.length = 7 → (captureCheck .lightDuty p = none ↔
      byteAt p 0 < 8 ∧ 1 ≤ word32At p 1 ∧ word32At p 1 ≤ 4000000))

/-- R129 and R135: STAGE_OPEN empties and opens an EMPTY bank, or a READY one not in rotation, while no bank is
OPEN; STAGE_DROP cancels a launch or empties a bank; each is BANK_STATE elsewhere, changes only that bank, and is
BAD_VALUE for a bank number from 4 up. -/
def Obligations.BanksOpenedAndDropped : Prop :=
  ∀ (tag : Byte) (b : Fin 4) (s : State), Ready s →
    (NoOpen s → (s.stage.banks.get b).state = .empty ∨
        ((s.stage.banks.get b).state = .ready ∧ ¬Named s.stage b) →
      exec (.stageOpen tag [bankCode b]) s =
        .next (replied 0xC0#8 tag ([0#8, bankCode b, 1#8] ++ le1 (bankCapacity s.stage.layout b))
          { s with stage.banks := s.stage.banks.set b ⟨.opened, []⟩ })) ∧
    (¬NoOpen s ∨ (s.stage.banks.get b).state = .pending ∨
        ((s.stage.banks.get b).state = .ready ∧ Named s.stage b) →
      exec (.stageOpen tag [bankCode b]) s = .next (replied 0xC0#8 tag [9#8] s)) ∧
    ((s.stage.banks.get b).state = .pending →
      exec (.stageDrop tag [bankCode b]) s =
        .next (replied 0xC3#8 tag [0#8, bankCode b, 2#8]
          { s with stage.banks := s.stage.banks.set b ⟨.ready, (s.stage.banks.get b).records⟩ })) ∧
    ((s.stage.banks.get b).state = .opened ∨
        ((s.stage.banks.get b).state = .ready ∧ ¬Named s.stage b) →
      exec (.stageDrop tag [bankCode b]) s =
        .next (replied 0xC3#8 tag [0#8, bankCode b, 0#8]
          { s with stage.banks := s.stage.banks.set b ⟨.empty, []⟩ })) ∧
    ((s.stage.banks.get b).state = .empty ∨
        ((s.stage.banks.get b).state = .ready ∧ Named s.stage b) →
      exec (.stageDrop tag [bankCode b]) s = .next (replied 0xC3#8 tag [9#8] s)) ∧
    (∀ x : Byte, 4 ≤ x.toNat →
      exec (.stageOpen tag [x]) s = .next (replied 0xC0#8 tag [4#8] s) ∧
      exec (.stageDrop tag [x]) s = .next (replied 0xC3#8 tag [4#8] s) ∧
      exec (.stageLaunch tag [x]) s = .next (replied 0xC2#8 tag [4#8] s))

/-- R132: STAGE_CLOSE makes the OPEN bank READY with the records it holds and answers the bank and their number,
in whatever state of the part it is taken; with no bank OPEN it is BANK_STATE, with a payload BAD_LENGTH. -/
def Obligations.StageCloseEffect : Prop :=
  (∀ (tag : Byte) (b : Fin 4) (s : State), OneOpen s.stage → (s.stage.banks.get b).state = .opened →
    execute ⟨0x41#8, tag, []⟩ s =
      ⟨{ s with stage.banks := s.stage.banks.set b ⟨.ready, (s.stage.banks.get b).records⟩ },
       [0#8, bankCode b] ++ le1 (s.stage.banks.get b).records.length⟩ ∧
    (Ready s → exec (.stageClose tag []) s =
      .next (replied 0xC1#8 tag ([0#8, bankCode b] ++ le1 (s.stage.banks.get b).records.length)
        { s with stage.banks := s.stage.banks.set b ⟨.ready, (s.stage.banks.get b).records⟩ }))) ∧
  (∀ (tag : Byte) (s : State), NoOpen s → execute ⟨0x41#8, tag, []⟩ s = ⟨s, [9#8]⟩) ∧
  (∀ (tag : Byte) (p : List Byte) (s : State), p ≠ [] → execute ⟨0x41#8, tag, p⟩ s = ⟨s, [3#8]⟩)

/-- R133 and R140: STAGE_LAUNCH of a READY bank not in rotation applies it at once in IDLE and ARMED, answering the
counts of the application, and makes it PENDING in the other run states; it is BANK_STATE for any other bank. -/
def Obligations.StageLaunchEffect : Prop :=
  ∀ (tag : Byte) (b : Fin 4) (s : State), Ready s →
    ((s.stage.banks.get b).state = .ready → ¬Named s.stage b →
      (s.run.state = .idle ∨ s.run.state = .armed →
        exec (.stageLaunch tag [bankCode b]) s =
          .next (replied 0xC2#8 tag
            ([0#8, bankCode b, 2#8] ++ le1 (applyBank b s).applied ++ le1 (applyBank b s).skipped)
            (applyBank b s).state)) ∧
      (s.run.state ≠ .idle → s.run.state ≠ .armed →
        exec (.stageLaunch tag [bankCode b]) s =
          .next (replied 0xC2#8 tag [0#8, bankCode b, 3#8, 0#8, 0#8]
            { s with stage.banks := s.stage.banks.set b ⟨.pending, (s.stage.banks.get b).records⟩ }))) ∧
    ((s.stage.banks.get b).state ≠ .ready ∨ Named s.stage b →
      exec (.stageLaunch tag [bankCode b]) s = .next (replied 0xC2#8 tag [9#8] s))

/-- R127, R141, R142, R145: STAGE_LAYOUT stores the starts with every bank EMPTY and no alternation; STAGE_ALTERNATE
clears or sets the alternation record; each is BAD_VALUE for starts out of order or above 64, for a bank from 4 up,
an undefined repeat or one period of 0; STAGE_GET answers the whole unit and changes nothing. (The presence byte of
the alternation in STAGE_ALTERNATE's reply is DEDUCED, log entry 20.) -/
def Obligations.LayoutAndAlternation : Prop :=
  ∀ (tag : Byte) (s : State), Ready s →
    (∀ l : StageLayout, LayoutSound l →
      let bytes := le1 0 ++ le1 l.start1 ++ le1 l.start2 ++ le1 l.start3 ++
        le1 l.start1 ++ le1 (l.start2 - l.start1) ++ le1 (l.start3 - l.start2) ++ le1 (64 - l.start3)
      ((∀ b, (s.stage.banks.get b).state = .empty) → s.stage.alternation = none →
        exec (.stageLayout tag (le1 l.start1 ++ le1 l.start2 ++ le1 l.start3)) s =
          .next (replied 0xC4#8 tag (0#8 :: bytes) { s with stage.layout := l })) ∧
      ((∃ b, (s.stage.banks.get b).state ≠ .empty) ∨ s.stage.alternation ≠ none →
        exec (.stageLayout tag (le1 l.start1 ++ le1 l.start2 ++ le1 l.start3)) s =
          .next (replied 0xC4#8 tag [9#8] s))) ∧
    (∀ (a b : Fin 4) (rep : Bool),
      exec (.stageAlternate tag [bankCode a, bankCode b, 0#8, 0#8, boolCode rep]) s =
        .next (replied 0xC5#8 tag [0#8, 0#8, 0#8, 0#8, 0#8, 0#8, 0#8, 0#8, 0#8]
          { s with stage.alternation := none })) ∧
    (∀ (a b : Fin 4) (m n : Byte) (rep : Bool), m ≠ 0#8 → n ≠ 0#8 →
      (a ≠ b → (s.stage.banks.get a).state = .ready → (s.stage.banks.get b).state = .ready →
        exec (.stageAlternate tag [bankCode a, bankCode b, m, n, boolCode rep]) s =
          .next (replied 0xC5#8 tag [0#8, 1#8, bankCode a, bankCode b, m, n, boolCode rep, bankCode a, 0#8]
            { s with stage.alternation := some { a := a, b := b, periodA := m.toNat, periodB := n.toNat,
                                                 repeats := rep, dueB := false, remaining := 0 } })) ∧
      (a ≠ b → (s.stage.banks.get a).state ≠ .ready ∨ (s.stage.banks.get b).state ≠ .ready →
        exec (.stageAlternate tag [bankCode a, bankCode b, m, n, boolCode rep]) s =
          .next (replied 0xC5#8 tag [9#8] s)) ∧
      (a = b → exec (.stageAlternate tag [bankCode a, bankCode b, m, n, boolCode rep]) s =
          .next (replied 0xC5#8 tag [4#8] s))) ∧
    (∀ (a b : Fin 4) (m : Byte) (rep : Bool), m ≠ 0#8 →
      exec (.stageAlternate tag [bankCode a, bankCode b, m, 0#8, boolCode rep]) s =
        .next (replied 0xC5#8 tag [4#8] s) ∧
      exec (.stageAlternate tag [bankCode a, bankCode b, 0#8, m, boolCode rep]) s =
        .next (replied 0xC5#8 tag [4#8] s)) ∧
    (∀ x y z : Byte, ¬(x.toNat ≤ y.toNat ∧ y.toNat ≤ z.toNat ∧ z.toNat ≤ 64) →
      exec (.stageLayout tag [x, y, z]) s = .next (replied 0xC4#8 tag [4#8] s)) ∧
    (∀ x y m n rep : Byte, 4 ≤ x.toNat ∨ 4 ≤ y.toNat ∨ 2 ≤ rep.toNat →
      exec (.stageAlternate tag [x, y, m, n, rep]) s = .next (replied 0xC5#8 tag [4#8] s)) ∧
    ∃ bytes, exec (.stageGet tag []) s = .next (replied 0xC6#8 tag (0#8 :: bytes) s) ∧
      bytes.length = 28 ∧
      bytes.take 12 = layoutBytes s.stage.layout ++
        [bankStateCode (s.stage.banks.get 0).state, bankStateCode (s.stage.banks.get 1).state,
         bankStateCode (s.stage.banks.get 2).state, bankStateCode (s.stage.banks.get 3).state] ∧
      (∀ b : Fin 4, bytes[12 + b.val]? = some (BitVec.ofNat 8 (s.stage.banks.get b).records.length)) ∧
      (∀ b : Fin 4, bytes[16 + b.val]? = some (boolCode (inRotation s.stage b)) ∧
        (inRotation s.stage b = true ↔ (s.stage.banks.get b).state = .ready ∧ Named s.stage b)) ∧
      (s.stage.alternation = none → bytes.drop 20 = [0#8, 0#8, 0#8, 0#8, 0#8, 0#8, 0#8, 0#8]) ∧
      (∀ r, s.stage.alternation = some r →
        bytes.drop 20 = [1#8, bankCode r.a, bankCode r.b, BitVec.ofNat 8 r.periodA, BitVec.ofNat 8 r.periodB,
          boolCode r.repeats, bankCode (if r.dueB then r.b else r.a), BitVec.ofNat 8 r.remaining])

/-- R136 and R137: a captured record acts on its block as the same command taken directly in IDLE, and is skipped
exactly when that command would be refused; the run state plays no part in it. -/
def Obligations.RecordActsAsItsCommand : Prop :=
  ∀ (c : Command) (p : List Byte) (s : State), isStageable c = true → captureCheck c p = none →
    (s.run.state = .idle →
      (∀ fields, (executeDirect c p s).reply = 0#8 :: fields →
        applyRecord ⟨commandCode c, p⟩ s = some (executeDirect c p s).state) ∧
      ((executeDirect c p s).reply = [4#8] → applyRecord ⟨commandCode c, p⟩ s = none) ∧
      ((executeDirect c p s).reply = [4#8] ∨ ∃ fields, (executeDirect c p s).reply = 0#8 :: fields)) ∧
    (∀ r : RunController,
      applyRecord ⟨commandCode c, p⟩ { s with run := r } =
        (applyRecord ⟨commandCode c, p⟩ s).map fun t => { t with run := r })

/-- R136, R139: an application takes the records of its bank one by one in capture order, each acting on the state
that the one before it left, a failing record leaving that state as it stands; it counts each record once, applied or
skipped, and raises its one report after the last. It keeps the bank and every other piece of the part but the Shot
Table, the regulators, the light channels and that report; `count` never falls, and `seq_start` stays below `count`
when it was. -/
def Obligations.BankApplied : Prop :=
  ∀ (b : Fin 4) (s : State),
    (let next (a : Application) (r : StageRecord) : Application :=
       match applyRecord r a.state with
       | some t => { a with state := t, applied := a.applied + 1 }
       | none => { a with skipped := a.skipped + 1 }
     let all := (s.stage.banks.get b).records.foldl next ⟨s, 0, 0⟩
     let report := [bankCode b] ++ le1 all.applied ++ le1 all.skipped ++ le4 s.seq.cycleNumber
     applyBank b s = { all with state := raise .stageApplied report all.state }) ∧
    (applyBank b s).applied + (applyBank b s).skipped = (s.stage.banks.get b).records.length ∧
    (∃ t : State, t = { s with table := t.table, regs := t.regs, lights := t.lights } ∧
      (applyBank b s).state = raise .stageApplied
        ([bankCode b] ++ le1 (applyBank b s).applied ++ le1 (applyBank b s).skipped ++
          le4 s.seq.cycleNumber) t) ∧
    s.table.count ≤ (applyBank b s).state.table.count ∧
    (applyBank b s).state.lights.dutyTimer = s.lights.dutyTimer ∧
    (s.table.seqStart < s.table.count →
      (applyBank b s).state.table.seqStart < (applyBank b s).state.table.count) ∧
    (∀ l, ((s.lights.channels.get l).firing = none →
        ((applyBank b s).state.lights.channels.get l).firing = none) ∧
      ((applyBank b s).state.lights.channels.get l).heat = (s.lights.channels.get l).heat ∧
      ((applyBank b s).state.lights.channels.get l).faulted = (s.lights.channels.get l).faulted)

/-- R138 and R143: the banks due at a cycle begin, in their order from every state: the alternation's due bank when
its hold starts, then every PENDING bank in ascending bank number, each application on the state that the one before
it left. With nothing due nothing is applied. The alternation applies its due bank when
a hold starts, counts this cycle begin, and at the hold's end passes the turn, or ends after b's hold without
repeat. The PENDING banks are applied and become READY, every other bank stays as it is. -/
def Obligations.DueBanksAtCycleBegin : Prop :=
  ∀ s : State,
    (NothingDue s → applyDueBanks s = s) ∧
    (∀ b : Fin 4, (applyDueBanks s).stage.banks.get b =
      { s.stage.banks.get b with
        state := if (s.stage.banks.get b).state = .pending then .ready else (s.stage.banks.get b).state }) ∧
    (∀ r, s.stage.alternation = some r → (∀ b : Fin 4, (s.stage.banks.get b).state ≠ .pending) →
      (1 < r.remaining →
        applyDueBanks s = { s with stage.alternation := some { r with remaining := r.remaining - 1 } }) ∧
      (r.remaining = 0 → r.dueB = false → 1 < r.periodA →
        applyDueBanks s = { (applyBank r.a s).state with
          stage.alternation := some { r with remaining := r.periodA - 1 } }) ∧
      (r.remaining = 0 → r.dueB = true → 1 < r.periodB →
        applyDueBanks s = { (applyBank r.b s).state with
          stage.alternation := some { r with remaining := r.periodB - 1 } }) ∧
      (r.remaining = 0 → r.dueB = false → r.periodA = 1 →
        applyDueBanks s = { (applyBank r.a s).state with
          stage.alternation := some { r with dueB := true, remaining := 0 } }) ∧
      (r.remaining = 0 → r.dueB = true → r.periodB = 1 →
        applyDueBanks s = { (applyBank r.b s).state with
          stage.alternation := if r.repeats then some { r with dueB := false, remaining := 0 } else none }) ∧
      (r.remaining = 1 → r.dueB = false →
        applyDueBanks s = { s with stage.alternation := some { r with dueB := true, remaining := 0 } }) ∧
      (r.remaining = 1 → r.dueB = true →
        applyDueBanks s = { s with
          stage.alternation := if r.repeats then some { r with dueB := false, remaining := 0 } else none })) ∧
    (∀ b : Fin 4, s.stage.alternation = none → (s.stage.banks.get b).state = .pending →
      (∀ k : Fin 4, k ≠ b → (s.stage.banks.get k).state ≠ .pending) →
      applyDueBanks s =
        { (applyBank b s).state with
          stage.banks := s.stage.banks.set b ⟨.ready, (s.stage.banks.get b).records⟩ }) ∧
    (∀ a b : Fin 4, a < b → s.stage.alternation = none →
      (∀ k : Fin 4, (s.stage.banks.get k).state = .pending ↔ k = a ∨ k = b) →
      (applyDueBanks s).table = (applyBank b (applyBank a s).state).state.table ∧
      (applyDueBanks s).regs = (applyBank b (applyBank a s).state).state.regs ∧
      (applyDueBanks s).lights = (applyBank b (applyBank a s).state).state.lights ∧
      (applyDueBanks s).link = (applyBank b (applyBank a s).state).state.link) ∧
    (let alternated : State := match s.stage.alternation with
       | some r => if r.remaining = 0 then (applyBank (if r.dueB then r.b else r.a) s).state else s
       | none => s
     let next (t : State) (b : Fin 4) : State :=
       if (s.stage.banks.get b).state = .pending then (applyBank b t).state else t
     let applied : State := [0, 1, 2, 3].foldl next alternated
     let turned (r : Alternation) : Option Alternation :=
       let left := (if r.remaining = 0 then (if r.dueB then r.periodB else r.periodA) else r.remaining) - 1
       if 0 < left then some { r with remaining := left }
       else if r.dueB = false then some { r with dueB := true, remaining := 0 }
       else if r.repeats then some { r with dueB := false, remaining := 0 }
       else none
     applyDueBanks s = { applied with stage := { s.stage with
       banks := s.stage.banks.map fun bank =>
         { bank with state := if bank.state = .pending then .ready else bank.state }
       alternation := match s.stage.alternation with
         | some r => turned r
         | none => none } })

/-! ### Shot execution and sensing (02_shot_execution_and_sensing.md) -/

/-- R41: FIRE starts a test shot of the entry named in OPERATE with the run IDLE and the sequencer QUIET; in
another mode it is NOT_READY, in another state BUSY, for an undefined entry BAD_VALUE. Only the sequencer (and at
lead 0 the flash start) acts. -/
def Obligations.FireStartsTestShot : Prop :=
  ∀ (tag : Byte) (i : Nat) (s : State), Ready s → i < 256 →
    (s.supply.mode ≠ .operate → exec (.fire tag (le1 i)) s = .next (replied 0x98#8 tag [6#8] s)) ∧
    (s.supply.mode = .operate → s.run.state ≠ .idle ∨ s.seq.state ≠ .quiet →
      exec (.fire tag (le1 i)) s = .next (replied 0x98#8 tag [5#8] s)) ∧
    (s.supply.mode = .operate → s.run.state = .idle → s.seq.state = .quiet →
      (s.table.count ≤ i → exec (.fire tag (le1 i)) s = .next (replied 0x98#8 tag [4#8] s)) ∧
      (∀ e, s.table.entries[i]? = some e →
        exec (.fire tag (le1 i)) s = .next (replied 0x98#8 tag (0#8 :: le1 i) (leadPassed e
          { s with
            seq.state := .testing
            seq.shot := some { index := i, entry := e, test := true, phase := .lead, timeLeft := e.lead,
                               flashLength := 0, fired := 0#8, clipped := 0#8, cut := 0#8 }
            seq.lastEntry := isLastEntry s.table i e
            seq.cameras := e.cameras
            seq.aux := e.aux }))))

/-- R25, R26, R28, R111, R112, R113: at flash start each light of the entry that is not OFF and not faulted is
offered its drive, admitted whole, clipped or left out by its heat budget, and debited, which never raises its heat
above its heat limit (R114); the flash phase takes the longer of the window and the longest admitted duration;
integration starts. (That nothing happens with no shot in LEAD is the model's choice, log entry 3.) -/
def Obligations.FlashStartAdmits : Prop :=
  ∀ s : State, Resting s →
    ((∀ sh, s.seq.shot = some sh → sh.phase ≠ .lead) → exec .flashStart s = .next s) ∧
    (∀ sh, s.seq.shot = some sh → sh.phase = .lead →
      ∃ t sh', exec .flashStart s = .next t ∧
        t = { s with seq.shot := some sh', lights.channels := t.lights.channels,
                     sense.integrators := ⟨0, 0, 0, 0⟩, sense.integrating := true } ∧
        sh' = { sh with phase := .flash, timeLeft := sh'.flashLength, flashLength := sh'.flashLength,
                        fired := sh'.fired, clipped := sh'.clipped, cut := 0#8 } ∧
        (∀ l : Light,
          let r := s.regs.get l
          let c := s.lights.channels.get l
          let c' := t.lights.channels.get l
          let duration := match sh.entry.fixed with | some o => o.duration | none => r.duration
          let current := match sh.entry.fixed with | some o => o.current | none => r.current
          let least := match sh.entry.fixed with | some _ => 1 | none => r.limits.durMin
          let room := c.heatLimit - c.heat
          let shortened := room * 1024 / current
          if sh.entry.lights.getLsbD l.val = true ∧ r.mode ≠ .off ∧ c.faulted = false then
            if duration * current / 1024 ≤ room then
              sh'.fired.getLsbD l.val = true ∧ sh'.clipped.getLsbD l.val = false ∧
              c' = { c with heat := c.heat + duration * current / 1024, firing := some ⟨current, duration⟩ }
            else if 1 ≤ shortened ∧ least ≤ shortened then
              sh'.fired.getLsbD l.val = true ∧ sh'.clipped.getLsbD l.val = true ∧
              c' = { c with heat := c.heat + shortened * current / 1024, firing := some ⟨current, shortened⟩ }
            else sh'.fired.getLsbD l.val = false ∧ sh'.clipped.getLsbD l.val = true ∧ c' = c
          else sh'.fired.getLsbD l.val = false ∧ sh'.clipped.getLsbD l.val = false ∧ c' = c) ∧
        sh.entry.window ≤ sh'.flashLength ∧
        (∀ l f, sh'.fired.getLsbD l.val = true → (t.lights.channels.get l).firing = some f →
          f.timeLeft ≤ sh'.flashLength) ∧
        (sh'.flashLength = sh.entry.window ∨ ∃ l f, sh'.fired.getLsbD l.val = true ∧
          (t.lights.channels.get l).firing = some f ∧ f.timeLeft = sh'.flashLength) ∧
        (∀ l, (t.lights.channels.get l).heat ≤
          max (s.lights.channels.get l).heatLimit (s.lights.channels.get l).heat))

/-- R31 to R35, R29, R148 to R150, R155, R42: flash end switches the lights off, latches the readings, writes the
baselines of a BASELINE shot, hands a cycle shot's figure and clip notice to its regulator, offers the result
record unless SKIP is set, notes the cycle's flags, and leaves the shot in TAIL, or in GAP with the cameras
released when tail is 0. A reading is the integrator's count (R28): its charge in the scale of 20 µA for 1000 µs to
65535, no charge counting past that; the integrators stop with what they hold. (The model's: that `charges` is the
charge, in nA·µs, that no idle step has counted, and that markers is what M0 to M3 stand at, log entry 10; that
nothing happens with no shot in FLASH, log entry 3.) -/
def Obligations.FlashEndLatches : Prop :=
  ∀ (charges : Quad Nat) (markers : LineSet) (s : State), Resting s →
    ((∀ sh, s.seq.shot = some sh → sh.phase ≠ .flash) → exec (.flashEnd charges markers) s = .next s) ∧
    (∀ sh, s.seq.shot = some sh → sh.phase = .flash →
      let held : Quad Nat := Quad.ofFn fun i =>
        min (20000 * 1000) (s.sense.integrators.get i + charges.get i)
      let readings : Quad Nat := held.map fun charge => charge * 65535 / (20000 * 1000)
      let baselines := if sh.entry.baseline then readings else s.sense.baselines
      let record : ResultRecord :=
        { cycle := if sh.test then 0 else s.seq.cycleNumber
          position := if sh.test then 0 else s.seq.position
          entry := sh.index, readings := readings, markers := markers, fired := sh.fired
          clipped := sh.clipped, cut := sh.cut, unlocked := s.seq.flags.unlocked && !sh.test
          test := sh.test, baseline := sh.entry.baseline, fixed := sh.entry.fixed.isSome }
      let full := decide (512 ≤ s.results.records.length)
      ∃ t, exec (.flashEnd charges markers) s = .next (startSend t) ∧
        t.table = s.table ∧ t.run = s.run ∧ t.lock = s.lock ∧ t.stage = s.stage ∧ t.supply = s.supply ∧
        t.pins = s.pins ∧ t.resetCause = none ∧ t.pending = s.pending ∧
        t.sense = ⟨held, false, readings, baselines⟩ ∧
        (∀ i, readings.get i ≤ 65535) ∧
        t.lights.dutyTimer = s.lights.dutyTimer ∧
        (∀ l, t.lights.channels.get l = { s.lights.channels.get l with firing := none }) ∧
        (∀ l, t.regs.get l =
          if sh.test = false ∧ sh.entry.regulate = some l then
            let r := if sh.fired.getLsbD l.val = true ∧ sh.cut.getLsbD l.val = false
              then takeFigure readings baselines (s.regs.get l) else s.regs.get l
            if sh.clipped.getLsbD l.val = true then takeClip r else r
          else s.regs.get l) ∧
        t.seq = { s.seq with
          shot := some (if sh.entry.tail = 0 then { sh with phase := .gap, timeLeft := sh.entry.gap }
            else { sh with phase := .tail, timeLeft := sh.entry.tail })
          cameras := if sh.entry.tail = 0 then 0#4 else s.seq.cameras
          flags := { s.seq.flags with
            clipped := s.seq.flags.clipped || (decide (sh.clipped ≠ 0#8) && !sh.test)
            lost := s.seq.flags.lost || (!sh.entry.skip && full && !sh.test) } } ∧
        t.results = (if sh.entry.skip then s.results
          else if full then { s.results with lost := min (s.results.lost + 1) 4294967295 }
          else { s.results with records := s.results.records ++ [record] }) ∧
        t.link = (if sh.entry.skip = false ∧ full = false ∧
            s.results.records.length + 1 = s.results.threshold
          then raise .resultsReady (le2 (s.results.records.length + 1) ++ le2 s.results.threshold ++
            le4 s.results.lost) s else s).link)

/-- R27, R35, R36, R42: FIRING_END switches the light off and touches nothing else; TAIL_END releases the cameras
into GAP; GAP_END ends a test shot in QUIET, suspends after a PAUSE that takes effect, starts the next shot of a
cycle, or closes the cycle (R38, R40) with the regulators stepped and CYCLE_DONE raised, ending a FINISHING run
that has no cycle left to accept (R64). A shot is the last one exactly when its entry has END and its index is at or
above `seq_start`, or its index is `count` − 1 (R11, R12). The flags byte of CYCLE_DONE has its five bits (section
11.5.3), and a set of lights one bit for each light. (The model's choices: that each event does nothing outside its
phase, log entry 3; that the last-entry marker is no with no shot in flight, log entry 35.) -/
def Obligations.PhaseEnds : Prop :=
  (∀ (t : ShotTable) (i : Nat) (e : ShotEntry), i < t.count →
    (isLastEntry t i e = true ↔ (e.endFlag = true ∧ t.seqStart ≤ i) ∨ i + 1 = t.count)) ∧
  (∀ f : CycleFlags,
    (cycleFlagsByte f).getLsbD 0 = f.short ∧ (cycleFlagsByte f).getLsbD 1 = f.aborted ∧
    (cycleFlagsByte f).getLsbD 2 = f.unlocked ∧ (cycleFlagsByte f).getLsbD 3 = f.lost ∧
    (cycleFlagsByte f).getLsbD 4 = f.clipped ∧ ∀ n, 5 ≤ n → (cycleFlagsByte f).getLsbD n = false) ∧
  (∀ (lit : Light → Bool) (l : Light), (lightsWhere lit).getLsbD l.val = lit l) ∧
  ∀ s : State, Resting s →
    (∀ l : Light,
      let c : LightChannel := { s.lights.channels.get l with firing := none }
      exec (.firingEnd l) s = .next { s with lights.channels := s.lights.channels.set l c }) ∧
    ((∀ sh, s.seq.shot = some sh → sh.phase ≠ .tail) → exec .tailEnd s = .next s) ∧
    (∀ sh, s.seq.shot = some sh → sh.phase = .tail →
      exec .tailEnd s = .next { s with
        seq.shot := some { sh with phase := .gap, timeLeft := sh.entry.gap }, seq.cameras := 0#4 }) ∧
    ((∀ sh, s.seq.shot = some sh → sh.phase ≠ .gap) → exec .gapEnd s = .next s) ∧
    (∀ sh, s.seq.shot = some sh → sh.phase = .gap →
      (sh.test = true →
        exec .gapEnd s = .next { s with
          seq.aux := s.run.setup.auxIdle, seq.state := .quiet, seq.shot := none, seq.lastEntry := false }) ∧
      (sh.test = false → sh.entry.pause = true → s.run.setup.startSource ≠ .trigGate →
        s.run.state ≠ .finishing →
        exec .gapEnd s = .next (startSend (changeRun .paused .pause { s with
          seq.shotsRun := s.seq.shotsRun + 1, seq.state := .suspended, seq.shot := none }))) ∧
      (sh.test = false →
        sh.entry.pause = false ∨ s.run.setup.startSource = .trigGate ∨ s.run.state = .finishing →
        (s.seq.lastEntry = false → ∀ e, s.table.entries[s.seq.cursor + 1]? = some e →
          exec .gapEnd s = .next (leadPassed e { s with
            seq.state := .shooting
            seq.shot := some (leadShot (s.seq.cursor + 1) e false)
            seq.cursor := s.seq.cursor + 1
            seq.position := s.seq.position + 1
            seq.shotsRun := s.seq.shotsRun + 1
            seq.lastEntry := isLastEntry s.table (s.seq.cursor + 1) e
            seq.cameras := e.cameras
            seq.aux := e.aux })) ∧
        (s.seq.lastEntry = true →
          let regs := s.regs.map closeRegulator
          let closed := raise .cycleDone
            (le4 s.seq.cycleNumber ++ le1 (s.seq.shotsRun + 1) ++ le2 s.seq.missedDuring ++
              [cycleFlagsByte s.seq.flags, lightsWhere fun l => (regs.get l).state == .stable,
               lightsWhere fun l => (regs.get l).state == .satHigh || (regs.get l).state == .satLow])
            { s with
              regs := regs
              seq.aux := s.run.setup.auxIdle
              seq.state := .quiet
              seq.shot := none
              seq.shotsRun := s.seq.shotsRun + 1
              seq.lastEntry := false }
          (s.run.state ≠ .finishing ∨ 0 < s.run.afterLeft →
            exec .gapEnd s = .next (startSend closed)) ∧
          (s.run.state = .finishing → s.run.afterLeft = 0 →
            exec .gapEnd s = .next (startSend (runEnd closed)))))) 

/-- R30: SENSE_GET answers the last readings and the baselines and changes nothing, in every state in which it is
taken; a payload is BAD_LENGTH. A flash start, and every other event of the shot before its flash end, leaves the
last readings as they were. -/
def Obligations.SenseGetAnswers : Prop :=
  (∀ (tag : Byte) (s : State),
    execute ⟨0x1A#8, tag, []⟩ s = ⟨s, 0#8 :: (quad2 s.sense.readings ++ quad2 s.sense.baselines)⟩ ∧
    (Ready s → exec (.senseGet tag []) s =
      .next (replied 0x9A#8 tag (0#8 :: (quad2 s.sense.readings ++ quad2 s.sense.baselines)) s))) ∧
  (∀ (tag : Byte) (p : List Byte) (s : State), p ≠ [] → execute ⟨0x1A#8, tag, p⟩ s = ⟨s, [3#8]⟩) ∧
  (∀ (i : Instr) (s t : State), (∀ charges markers, i ≠ .flashEnd charges markers) →
    s.resetCause = none → t.resetCause = none → s.link.executor = .idle →
    exec i s = .next t → t.sense.readings = s.sense.readings)

/-! ### Run control and triggers (03_run_control_and_triggers.md) -/

/-- R58, R22, R23, R24, R60, R64, R75: a cycle-source event that finds the sequencer QUIET and the run RUNNING, or
FINISHING with after-left above 0, is accepted, from each of the four sources: the cycle count rises, in FINISHING
after-left falls by 1, the cycle's record is opened and the cycle begins (what a cycle begin does in every state is
O46); with the lock enabled it is held, or begins marked UNLOCKED when sync is lost. With no bank due its first shot
is the entry at `seq_start`. The N-th acceptance under COUNT in RUNNING moves the run to FINISHING. (That the COUNT
stop follows the acceptance is DEDUCED, log entry 14; that ENCODER_COUNTER_ZERO acts as the edge that reaches 0 is
DEDUCED, log entry 7.) -/
def Obligations.CycleRequestAccepted : Prop :=
  ∀ s : State,
    s.run.state = .running ∨ (s.run.state = .finishing ∧ 0 < s.run.afterLeft) → s.seq.state = .quiet →
    let count := (s.run.cycleCount + 1) % 4294967296
    let counted (t : State) : State := { t with
      run.cycleCount := count
      run.afterLeft := if s.run.state = .finishing then s.run.afterLeft - 1 else s.run.afterLeft }
    let recorded (unlocked : Bool) (t : State) : State := { t with
      seq.shotsRun := 0, seq.missedDuring := 0, seq.flags := { CycleFlags.clear with unlocked := unlocked } }
    let held (t : State) : State := { recorded false t with seq.state := .waitSync, lock.hold := .edge }
    let opened (t : State) : State :=
      if s.lock.setup.enable = false then cycleBegin (recorded false t)
      else if s.lock.syncOk = true then held t
      else cycleBegin (recorded true t)
    let accepted (t : State) : State :=
      if s.run.state = .running ∧ s.run.setup.stopSource = .count ∧ count = s.run.setup.stopCount
      then changeRun .finishing .stop { opened (counted t) with
        run.stopKind := .count, run.afterLeft := s.run.setup.afterCount }
      else opened (counted t)
    (Resting s → s.run.pacer ≠ none →
      exec .pacerExpiry s = .next (startSend (accepted { s with run.pacer := some s.run.setup.pacerPeriod }))) ∧
    (Resting s → s.run.setup.cycleSource = .encoder → s.supply.mode = .operate → s.run.encoder = 1 →
      let t := startSend (accepted { s with run.encoder := s.run.setup.encoderSpan })
      exec .encEdge s = .next t ∧ exec .encoderCounterZero s = .next t) ∧
    (Resting s → s.run.setup.cycleSource = .trig → s.supply.mode = .operate →
      s.run.setup.stopSource ≠ .trigEdge ∨ s.run.state = .finishing →
      exec .trigActiveEdge s = .next (startSend (accepted
        { s with pins.trigHigh := decide (s.run.setup.polarity = .rising) }))) ∧
    (∀ tag, Ready s → s.run.setup.cycleSource = .command →
      exec (.cycle tag []) s = .next (replied 0xA2#8 tag ([0#8, 2#8] ++ le4 count) (accepted s))) ∧
    (∀ (e : ShotEntry) (t : State) (unlocked : Bool), NothingDue t → t.table.entries[t.table.seqStart]? = some e →
      cycleBegin (recorded unlocked t) = leadPassed e (cycleBegun e unlocked t))

/-- R57, R58, R59, R61, R64: what each cycle-source event comes to, by run state, and that each of the four sources
gives one: the pacer, the encoder, TRIG (R51; before the stop event that the same edge is under stop source
TRIG_EDGE) and CYCLE. In RUNNING, and in FINISHING with cycles left, every event is accepted or missed, and not
both. CYCLE is BUSY under another cycle source while a run is past ARMED. (That PACER_EXPIRY does nothing with a
stopped pacer is the model's choice, log entry 3; ENCODER_COUNTER_ZERO is DEDUCED, log entry 7; the state on which
the TRIG stop acts is DEDUCED, log entry 25; that in FINISHING with after-left 0 an event is ignored during a hold
too, R64 followed where R75 counts it, is a DESIGN CHOICE, log entry 36.) -/
def Obligations.CycleSourceOutcomes : Prop :=
  (∀ s : State,
    let missed : State := { s with run.missed := min (s.run.missed + 1) 4294967295,
                                   seq.missedDuring := min (s.seq.missedDuring + 1) 65535 }
    (s.run.state = .idle ∨ s.run.state = .armed → cycleSource s = ⟨s, .ignored⟩) ∧
    (s.run.state = .finishing → s.run.afterLeft = 0 → cycleSource s = ⟨s, .ignored⟩) ∧
    (s.run.state = .paused → cycleSource s = ⟨missed, .missed⟩) ∧
    (s.run.state = .running ∨ (s.run.state = .finishing ∧ 0 < s.run.afterLeft) →
      (s.seq.state ≠ .quiet → cycleSource s = ⟨missed, .missed⟩) ∧
      (s.seq.state = .quiet →
        (cycleSource s).outcome = .accepted ∧ (cycleSource s).state.run.missed = s.run.missed ∧
        (cycleSource s).state.run.cycleCount = (s.run.cycleCount + 1) % 4294967296 ∧
        (cycleSource s).state.seq.missedDuring = 0 ∧
        (s.run.state = .finishing →
          (cycleSource s).state.run.afterLeft = s.run.afterLeft - 1 ∧
          (cycleSource s).state.run.state = .finishing))) ∧
    (s.run.state = .delaying →
      (1 < s.run.delayLeft →
        cycleSource s = ⟨{ s with run.delayLeft := s.run.delayLeft - 1 }, .delay⟩) ∧
      (s.run.delayLeft ≤ 1 →
        cycleSource s = ⟨changeRun .running .delayDone { s with run.delayLeft := 0 }, .delay⟩))) ∧
  (∀ s : State, Resting s →
    (s.run.pacer ≠ none → exec .pacerExpiry s =
      .next (startSend (cycleSource { s with run.pacer := some s.run.setup.pacerPeriod }).state)) ∧
    (s.run.pacer = none → exec .pacerExpiry s = .next s) ∧
    (s.run.setup.cycleSource = .encoder → s.supply.mode = .operate →
      (1 < s.run.encoder → exec .encEdge s = .next { s with run.encoder := s.run.encoder - 1 } ∧
        exec .encoderCounterZero s = .next s) ∧
      (s.run.encoder = 1 → exec .encEdge s =
          .next (startSend (cycleSource { s with run.encoder := s.run.setup.encoderSpan }).state) ∧
        exec .encoderCounterZero s = exec .encEdge s)) ∧
    (s.run.setup.cycleSource ≠ .encoder ∨ s.supply.mode ≠ .operate →
      exec .encEdge s = .next s ∧ exec .encoderCounterZero s = .next s) ∧
    (s.run.setup.cycleSource = .trig → s.run.setup.startSource = .command → s.supply.mode = .operate →
      let sourced := (cycleSource { s with pins.trigHigh := decide (s.run.setup.polarity = .rising) }).state
      exec .trigActiveEdge s = .next (startSend
        (if s.run.setup.stopSource = .trigEdge then stopEvent .trigEdge sourced else sourced)))) ∧
  (∀ (tag : Byte) (s : State), Ready s →
    (s.run.setup.cycleSource = .command ∨ s.run.state = .idle ∨ s.run.state = .armed →
      exec (.cycle tag []) s = .next (replied 0xA2#8 tag
        ([0#8, cycleOutcomeCode (cycleSource s).outcome] ++
          le4 (if (cycleSource s).outcome = .accepted then (cycleSource s).state.run.cycleCount else 0))
        (cycleSource s).state)) ∧
    (s.run.setup.cycleSource ≠ .command → s.run.state ≠ .idle → s.run.state ≠ .armed →
      exec (.cycle tag []) s = .next (replied 0xA2#8 tag [5#8] s)))

/-- R46, R47, R48: RUN_SETUP in IDLE replaces every field, answers the setup as stored, reloads the encoder
counter and drives `aux_idle` (not while a test shot is in flight); in any other run state it is BUSY, and BAD_VALUE
for a field out of range, an undefined encoding or one of the two combinations refused, in every run state. -/
def Obligations.RunSetupStored : Prop :=
  (∀ (tag : Byte) (bytes : List Byte) (s : State), Ready s → bytes.length = 21 →
    3 ≤ byteAt bytes 0 ∨ 4 ≤ byteAt bytes 1 ∨ 4 ≤ byteAt bytes 2 ∨ 2 ≤ byteAt bytes 11 ∨ 2 ≤ byteAt bytes 18 ∨
      2 ≤ byteAt bytes 20 →
    exec (.runSetup tag bytes) s = .next (replied 0xA0#8 tag [4#8] s)) ∧
  ∀ (tag : Byte) (u : RunSetup) (s : State), Ready s → u.stopCount < 4294967296 → u.delay < 65536 →
    u.afterCount < 65536 → u.pacerPeriod < 4294967296 → u.encoderSpan < 65536 →
    let bytes := [startSourceCode u.startSource, cycleSourceCode u.cycleSource, stopSourceCode u.stopSource] ++
      le4 u.stopCount ++ le2 u.delay ++ le2 u.afterCount ++ [boolCode u.repeats] ++ le4 u.pacerPeriod ++
      le2 u.encoderSpan ++ [polarityCode u.polarity, u.auxIdle, boolCode u.faultHalts]
    let allowed := 1 ≤ u.stopCount ∧ 100 ≤ u.pacerPeriod ∧ u.pacerPeriod ≤ 2000000 ∧ 1 ≤ u.encoderSpan ∧
      ¬(u.cycleSource = .trig ∧ u.startSource ≠ .command) ∧
      ¬(u.stopSource = .trigEdge ∧ u.startSource = .trigGate)
    (allowed → s.run.state = .idle →
      exec (.runSetup tag bytes) s = .next (replied 0xA0#8 tag (0#8 :: bytes)
        { s with run.setup := u, run.encoder := u.encoderSpan,
                 seq.aux := if s.seq.state = .testing then s.seq.aux else u.auxIdle })) ∧
    (allowed → s.run.state ≠ .idle →
      exec (.runSetup tag bytes) s = .next (replied 0xA0#8 tag [5#8] s)) ∧
    (¬allowed → exec (.runSetup tag bytes) s = .next (replied 0xA0#8 tag [4#8] s))

/-- R52, R53, R54, R55, R66: START's checks in their order, and what an accepted START does by run state and start
source: the start event, arming (with a gate start at once), the resume, or nothing; its reply carries the run
state after it. The start event zeroes the counts, restarts the pacer, reloads the encoder counter and the delay;
the resume (R37) goes on with the next shot, with no hold and no bank applied, or closes after a last entry. (That a
START after a stop in PAUSED with after-left 0 finds the run ended, and not FINISHING as R66 says, is a DESIGN
CHOICE, log entry 38.) -/
def Obligations.StartByRunState : Prop :=
  ∀ (tag : Byte) (s : State), Ready s →
    let opened (s : State) : State := changeRun (if 0 < s.run.setup.delay then .delaying else .running) .start
      { s with
        seq.cycleNumber := 0
        run.cycleCount := 0
        run.missed := 0
        run.stopKind := .never
        run.afterLeft := 0
        run.pacer := if s.run.setup.cycleSource = .pacer then some s.run.setup.pacerPeriod else none
        run.encoder := s.run.setup.encoderSpan
        run.delayLeft := s.run.setup.delay }
    let answered (t : State) := exec (.start tag []) s =
      .next (replied 0xA1#8 tag [0#8, runStateCode t.run.state] t)
    let refused (status : Byte) := exec (.start tag []) s = .next (replied 0xA1#8 tag [status] s)
    (s.supply.mode ≠ .operate → refused 6#8) ∧
    (s.supply.mode = .operate → s.seq.state = .testing → refused 5#8) ∧
    (s.supply.mode = .operate → s.seq.state ≠ .testing → s.table.count ≤ s.table.seqStart → refused 7#8) ∧
    (s.supply.mode = .operate → s.seq.state ≠ .testing → s.table.seqStart < s.table.count →
      (s.run.state = .idle ∨ s.run.state = .armed → s.run.setup.startSource = .command →
        answered (opened s)) ∧
      (s.run.state = .idle → s.run.setup.startSource = .trigEdge → answered (changeRun .armed .arm s)) ∧
      (s.run.state = .idle → s.run.setup.startSource = .trigGate →
        answered (if (s.run.setup.polarity = .rising ↔ s.pins.trigHigh = true)
          then opened (changeRun .armed .arm s) else changeRun .armed .arm s)) ∧
      (s.run.state = .armed → s.run.setup.startSource ≠ .command → answered s) ∧
      (s.run.state = .paused → s.run.setup.startSource = .command → answered (resume s)) ∧
      (s.run.state = .paused → s.run.setup.startSource ≠ .command → refused 5#8) ∧
      (s.run.state = .delaying ∨ s.run.state = .running ∨ s.run.state = .finishing → refused 5#8)) ∧
    (let running := changeRun .running .resume s
     (s.seq.lastEntry = false → ∀ e, s.table.entries[s.seq.cursor + 1]? = some e →
       resume s = leadPassed e { running with
         seq.state := .shooting
         seq.shot := some (leadShot (s.seq.cursor + 1) e false)
         seq.cursor := s.seq.cursor + 1
         seq.position := s.seq.position + 1
         seq.lastEntry := isLastEntry s.table (s.seq.cursor + 1) e
         seq.cameras := e.cameras
         seq.aux := e.aux }) ∧
     (s.seq.lastEntry = true → resume s = closeCycle running ∧ (resume s).run.state = .running ∧
       (resume s).seq.state = .quiet ∧ (resume s).regs = s.regs.map closeRegulator))

/-- R62 to R65, R67: HALT by run state, the stop it raises and the end of a run: FINISHING with after-left 0 while a
cycle is in progress, at once otherwise; a suspended cycle closes short. Run end stops the pacer, drives `aux_idle`
and goes where the stop kind and the repeat setting send it, starting again at once under an active gate. The stop
event of each kind in each run state (R62, R63, R39): after-left takes A for TRIG_EDGE and COUNT and 0 for the other
kinds. (The order of the reports in PAUSED is DEDUCED, log entry 15. A DESIGN CHOICE: that a stop in
PAUSED with after-left 0 ends the run in its own event, R63, R64 and R67 followed where R66 lets a later START find
FINISHING, log entry 38.) -/
def Obligations.HaltAndRunEnd : Prop :=
  (∀ (tag : Byte) (s : State), Ready s →
    let answered (t : State) := exec (.halt tag []) s =
      .next (replied 0xA3#8 tag [0#8, runStateCode t.run.state] t)
    (s.run.state = .idle ∨ s.run.state = .finishing → answered s) ∧
    (s.run.state = .armed → answered (changeRun .idle .disarm s)) ∧
    (s.run.state = .delaying → answered (runEnd { s with run.stopKind := .halt, run.afterLeft := 0 })) ∧
    (s.run.state = .running →
      let t := changeRun .finishing .stop { s with run.stopKind := .halt, run.afterLeft := 0 }
      answered (if s.seq.state = .quiet then runEnd t else t)) ∧
    (s.run.state = .paused →
      answered (runEnd (changeRun .finishing .stop (closeCycle
        { s with run.stopKind := .halt, run.afterLeft := 0, seq.flags.short := true }))))) ∧
  (∀ s : State,
    let destination : RunState := match s.run.stopKind with
      | .gate => .armed
      | .trigEdge | .count => if s.run.setup.repeats then .armed else .idle
      | _ => .idle
    let ended := changeRun destination .runEnd
      { s with run.pacer := none, run.delayLeft := 0, run.afterLeft := 0, seq.aux := s.run.setup.auxIdle }
    (destination = .armed → s.run.setup.startSource = .trigGate →
        (s.run.setup.polarity = .rising ↔ s.pins.trigHigh = true) → runEnd s = startEvent ended) ∧
    (destination = .idle ∨ s.run.setup.startSource ≠ .trigGate ∨
        ¬(s.run.setup.polarity = .rising ↔ s.pins.trigHigh = true) → runEnd s = ended)) ∧
  (∀ (k : StopKind) (s : State),
    let left := match k with
      | .trigEdge | .count => s.run.setup.afterCount
      | .halt | .gate | .fault | .never => 0
    let noted : State := { s with run.stopKind := k, run.afterLeft := left }
    let finishing := changeRun .finishing .stop noted
    let short := changeRun .finishing .stop (closeCycle { noted with seq.flags.short := true })
    (s.run.state = .idle ∨ s.run.state = .armed ∨ s.run.state = .finishing → stopEvent k s = s) ∧
    (s.run.state = .delaying → stopEvent k s = runEnd noted) ∧
    (s.run.state = .running →
      stopEvent k s = if s.seq.state = .quiet ∧ left = 0 then runEnd finishing else finishing) ∧
    (s.run.state = .paused → stopEvent k s = if left = 0 then runEnd short else short))

/-- R68, R43, R79, R109: ABORT in a run or with a test shot in flight ends everything at once: lights off, cameras
released, the shot and its cycle discarded (CYCLE_DONE with ABORTED for a cycle in progress, of the number it had or
would have had), timers stopped, the run IDLE with its report. With neither, it is answered OK with no effect. The
integrators stop without latching. (The model's readings, DEDUCED: the order of the two reports, log entry 16; that
the discarded cycle's record and its flags stay, log entry 22; that a held cycle is a cycle in progress, log entry
27; that a stopped integrator keeps its charge, log entry 10. A DESIGN CHOICE: that the last-entry marker is no with
no shot in flight, log entry 35. The bits of the flags byte are stated in O36.) -/
def Obligations.AbortEndsEverything : Prop :=
  ∀ (tag : Byte) (s : State), Ready s →
    (s.run.state = .idle → s.seq.state ≠ .testing →
      exec (.abort tag []) s = .next (replied 0xA4#8 tag [0#8] s)) ∧
    (s.run.state ≠ .idle ∨ s.seq.state = .testing →
      ∃ t, exec (.abort tag []) s = .next (replied 0xA4#8 tag [0#8] t) ∧
        t.table = s.table ∧ t.stage = s.stage ∧ t.results = s.results ∧ t.supply = s.supply ∧
        t.pins = s.pins ∧ t.resetCause = none ∧ t.pending = s.pending ∧
        t.lock = { s.lock with hold := .none } ∧
        t.sense = { s.sense with integrating := false } ∧
        t.lights.dutyTimer = s.lights.dutyTimer ∧
        (∀ l, t.lights.channels.get l = { s.lights.channels.get l with firing := none }) ∧
        t.run = { s.run with state := .idle, pacer := none, encoder := s.run.setup.encoderSpan,
                             delayLeft := 0, afterLeft := 0, stopKind := .never } ∧
        (let cycle := s.seq.state = .shooting ∨ s.seq.state = .suspended ∨ s.seq.state = .waitSync
         let flags := { s.seq.flags with aborted := true }
         t.seq = { s.seq with
           state := .quiet, shot := none, lastEntry := false, cameras := 0#4, aux := s.run.setup.auxIdle
           flags := if cycle then flags else s.seq.flags } ∧
         (∀ l, t.regs.get l = if cycle
           then { s.regs.get l with sum := 0, count := 0, clipped := false } else s.regs.get l) ∧
         t.link =
           (let u := if cycle then raise .cycleDone
              (le4 (if s.seq.state = .waitSync then (s.seq.cycleNumber + 1) % 4294967296
                  else s.seq.cycleNumber) ++
                le1 (if s.seq.state = .waitSync then 0 else s.seq.shotsRun) ++ le2 s.seq.missedDuring ++
                [cycleFlagsByte flags, lightsWhere fun l => (s.regs.get l).state == .stable,
                 lightsWhere fun l => (s.regs.get l).state == .satHigh || (s.regs.get l).state == .satLow]) s
              else s
            (if s.run.state = .idle then u else raise .runState
              ([0#8, runStateCode s.run.state, 8#8] ++ le4 s.seq.cycleNumber ++ le4 s.run.cycleCount ++
                le4 s.run.missed ++ [0#8]) u).link)))

/-- R51, R56, R63, R66, R177: the active edge of TRIG by supply mode and run state, a cycle-source event before a
stop event, and the gate's return to inactive. (The model's: that an edge acts although TRIG already stands at its
level is a DESIGN CHOICE, log entry 24; which run state decides its roles is DEDUCED, log entry 25.) -/
def Obligations.TrigEdges : Prop :=
  ∀ s : State, Resting s →
    let rise := decide (s.run.setup.polarity = .rising)
    let active : State := { s with pins.trigHigh := rise }
    let inactive : State := { s with pins.trigHigh := !rise }
    let cycled (t : State) : State := if t.run.setup.cycleSource = .trig then (cycleSource t).state else t
    let stopped (t : State) : State := if t.run.setup.stopSource = .trigEdge then stopEvent .trigEdge t else t
    (s.supply.mode = .standby →
      exec .trigActiveEdge s = .next (startSend (if s.supply.wakeOnTrigger then changeSupply .waking .trigger
        { active with supply.settleTimer := some (s.supply.settle * 1000) } else active))) ∧
    (s.supply.mode = .waking → exec .trigActiveEdge s = .next active) ∧
    (s.supply.mode ≠ .operate → exec .trigInactiveEdge s = .next inactive) ∧
    (s.supply.mode = .operate →
      (s.run.state = .idle → exec .trigActiveEdge s = .next active) ∧
      (s.run.state = .armed → s.run.setup.startSource = .command → exec .trigActiveEdge s = .next active) ∧
      (s.run.state = .armed → s.run.setup.startSource ≠ .command →
        exec .trigActiveEdge s = .next (startSend (startEvent active))) ∧
      (s.run.state = .delaying ∨ s.run.state = .running →
        exec .trigActiveEdge s = .next (startSend (stopped (cycled active)))) ∧
      (s.run.state = .finishing → exec .trigActiveEdge s = .next (startSend (cycled active))) ∧
      (s.run.state = .paused → exec .trigActiveEdge s = .next (startSend
        (if s.run.setup.startSource = .trigEdge then resume active else stopped (cycled active)))) ∧
      (s.run.setup.startSource ≠ .trigGate → exec .trigInactiveEdge s = .next inactive) ∧
      (s.run.setup.startSource = .trigGate →
        (s.run.state = .delaying → exec .trigInactiveEdge s =
          .next (startSend (runEnd { inactive with run.stopKind := .gate, run.afterLeft := 0 }))) ∧
        (s.run.state = .running → exec .trigInactiveEdge s =
          .next (startSend
            (let t := changeRun .finishing .stop { inactive with run.stopKind := .gate, run.afterLeft := 0 }
             if s.seq.state = .quiet then runEnd t else t))) ∧
        (s.run.state ≠ .delaying → s.run.state ≠ .running →
          exec .trigInactiveEdge s = .next inactive)))

/-! ### Line lock (04_line_lock.md) -/

/-- R71: LOCK_SETUP stores its four fields and answers them with `sync_ok`; turning the lock off clears `sync_ok` and
stops the watch without a report; in WAIT_SYNC it is BUSY, out of range or for an undefined encoding BAD_VALUE in
every state. -/
def Obligations.LockSetupStored : Prop :=
  (∀ (tag : Byte) (bytes : List Byte) (s : State), Ready s → bytes.length = 7 →
    2 ≤ byteAt bytes 0 ∨ 2 ≤ byteAt bytes 1 →
    exec (.lockSetup tag bytes) s = .next (replied 0xA8#8 tag [4#8] s)) ∧
  ∀ (tag : Byte) (u : LockSetup) (s : State), Ready s → u.timeout < 256 → u.phase < 4294967296 →
    let bytes := [boolCode u.enable, polarityCode u.polarity] ++ le1 u.timeout ++ le4 u.phase
    let allowed := 1 ≤ u.timeout ∧ u.timeout ≤ 200 ∧ u.phase ≤ 100000
    (allowed → s.seq.state ≠ .waitSync →
      (s.lock.setup.enable = true → u.enable = false →
        exec (.lockSetup tag bytes) s = .next (replied 0xA8#8 tag (0#8 :: (bytes ++ [0#8]))
          { s with lock.setup := u, lock.syncOk := false, lock.watch := none })) ∧
      (s.lock.setup.enable = false ∨ u.enable = true →
        exec (.lockSetup tag bytes) s = .next (replied 0xA8#8 tag (0#8 :: (bytes ++ [boolCode s.lock.syncOk]))
          { s with lock.setup := u }))) ∧
    (allowed → s.seq.state = .waitSync →
      exec (.lockSetup tag bytes) s = .next (replied 0xA8#8 tag [5#8] s)) ∧
    (¬allowed → exec (.lockSetup tag bytes) s = .next (replied 0xA8#8 tag [4#8] s))

/-- R72, R73, R76, R77: an active edge restarts the watch, regains sync and acts on a hold that waits for it; the
watch's expiry loses sync and releases a hold UNLOCKED; the phase delay's end begins the held cycle. Edges that are
not taken do nothing. A cycle begin (R23, R138), in every state: the cycle number rises, the position is 0, the banks
due are applied on that state (O32), and the shot at the `seq_start` they leave starts, which is defined when the
table's was. (That an expiry of a timer that does not run does nothing is the model's choice, log entry
3; that SYNC_EDGE carries its direction, log entry 32.) -/
def Obligations.SyncWatchAndHold : Prop :=
  ∀ s : State, Resting s →
    let watched : State :=
      let t : State := { s with lock.watch := some (s.lock.setup.timeout * 1000) }
      if s.lock.syncOk then t else changeSync true t
    let lost : State := changeSync false { s with lock.watch := none }
    (∀ d : Polarity, s.lock.setup.enable = false ∨ s.supply.mode ≠ .operate ∨ d ≠ s.lock.setup.polarity →
      exec (.syncEdge d) s = .next s) ∧
    (s.lock.setup.enable = true → s.supply.mode = .operate →
      (s.lock.hold ≠ .edge → exec (.syncEdge s.lock.setup.polarity) s = .next (startSend watched)) ∧
      (s.lock.hold = .edge → 0 < s.lock.setup.phase →
        exec (.syncEdge s.lock.setup.polarity) s =
          .next (startSend { watched with lock.hold := .phase s.lock.setup.phase })) ∧
      (s.lock.hold = .edge → s.lock.setup.phase = 0 →
        exec (.syncEdge s.lock.setup.polarity) s =
          .next (startSend (cycleBegin { watched with lock.hold := .none })))) ∧
    (s.lock.watch = none → exec .watchExpiry s = .next s) ∧
    (s.lock.watch ≠ none → s.lock.hold = .none → exec .watchExpiry s = .next (startSend lost)) ∧
    (s.lock.watch ≠ none → s.lock.hold ≠ .none →
      exec .watchExpiry s =
        .next (startSend (cycleBegin { lost with seq.flags.unlocked := true, lock.hold := .none }))) ∧
    (∀ n, s.lock.hold = .phase n →
      exec .phaseDelayEnd s = .next (startSend (cycleBegin { s with lock.hold := .none }))) ∧
    ((∀ n, s.lock.hold ≠ .phase n) → exec .phaseDelayEnd s = .next s) ∧
    (let t : State := applyDueBanks { s with
       seq.cycleNumber := (s.seq.cycleNumber + 1) % 4294967296, seq.position := 0 }
     (s.table.seqStart < s.table.count → ∃ e, t.table.entries[t.table.seqStart]? = some e) ∧
     ∀ e, t.table.entries[t.table.seqStart]? = some e →
       cycleBegin s = leadPassed e { t with
         seq.state := .shooting
         seq.shot := some (leadShot t.table.seqStart e false)
         seq.cursor := t.table.seqStart
         seq.lastEntry := isLastEntry t.table t.table.seqStart e
         seq.cameras := e.cameras
         seq.aux := e.aux }) ∧
    (∀ e, NothingDue s → s.table.entries[s.table.seqStart]? = some e →
      cycleBegin s = leadPassed e { s with
        seq.state := .shooting
        seq.shot := some (leadShot s.table.seqStart e false)
        seq.cursor := s.table.seqStart
        seq.cycleNumber := (s.seq.cycleNumber + 1) % 4294967296
        seq.position := 0
        seq.lastEntry := isLastEntry s.table s.table.seqStart e
        seq.cameras := e.cameras
        seq.aux := e.aux })

/-! ### Level regulators (05_level_regulators.md) -/

/-- R101, R102, R103, R99: REG_MODE sets the mode with its state and switches a lit light off under OFF; REG_FORCE
writes actuators that lie within the limits and on the band, restarting regulation in AUTO; both answer the record's
new values, are BAD_VALUE otherwise, a light from 8 up among it, and leave every other regulator and light alone. -/
def Obligations.RegModeAndForce : Prop :=
  ∀ (tag : Byte) (l : Light) (s : State), Ready s → NoOpen s →
    let r := s.regs.get l
    let auto : Regulator := { r with mode := .auto, state := .converging, sum := 0, count := 0 }
    let manual : Regulator := { r with mode := .manual, state := .manual }
    let off : Regulator := { r with mode := .off, state := .off }
    let dark : LightChannel := { s.lights.channels.get l with firing := none }
    exec (.regMode tag [lightCode l, 2#8]) s =
      .next (replied 0xB0#8 tag [0#8, lightCode l, 2#8, 2#8] { s with regs := s.regs.set l auto }) ∧
    exec (.regMode tag [lightCode l, 1#8]) s =
      .next (replied 0xB0#8 tag [0#8, lightCode l, 1#8, 1#8] { s with regs := s.regs.set l manual }) ∧
    exec (.regMode tag [lightCode l, 0#8]) s =
      .next (replied 0xB0#8 tag [0#8, lightCode l, 0#8, 0#8]
        { s with regs := s.regs.set l off, lights.channels := s.lights.channels.set l dark }) ∧
    (∀ x m : Byte, 8 ≤ x.toNat ∨ 3 ≤ m.toNat →
      exec (.regMode tag [x, m]) s = .next (replied 0xB0#8 tag [4#8] s)) ∧
    (∀ (x : Byte) (rest : List Byte), 8 ≤ x.toNat → rest.length = 4 →
      exec (.regForce tag (x :: rest)) s = .next (replied 0xB1#8 tag [4#8] s)) ∧
    (∀ duration current : Nat, duration < 65536 → current < 65536 →
      let forced : Regulator := { r with duration := duration, current := current }
      let restarted : Regulator := { forced with state := .converging, sum := 0, count := 0 }
      let fits := 1 ≤ duration ∧ duration ≤ 20000 ∧ current ≤ 1023 ∧
        r.limits.durMin ≤ duration ∧ duration ≤ r.limits.durCeiling ∧
        r.limits.curFloor ≤ current ∧ current ≤ r.limits.curCeiling ∧
        (0 < r.limits.bandStep → duration % r.limits.bandStep = 0)
      (fits → r.mode = .auto →
        exec (.regForce tag (lightCode l :: (le2 duration ++ le2 current))) s =
          .next (replied 0xB1#8 tag ([0#8, lightCode l] ++ le2 duration ++ le2 current ++ [2#8])
            { s with regs := s.regs.set l restarted })) ∧
      (fits → r.mode ≠ .auto →
        exec (.regForce tag (lightCode l :: (le2 duration ++ le2 current))) s =
          .next (replied 0xB1#8 tag ([0#8, lightCode l] ++ le2 duration ++ le2 current ++ [regStateCode r.state])
            { s with regs := s.regs.set l forced })) ∧
      (¬fits → exec (.regForce tag (lightCode l :: (le2 duration ++ le2 current))) s =
        .next (replied 0xB1#8 tag [4#8] s)))

/-- R104, R105, R106, R99: REG_BANDS stores ordered bounds and weights; REG_LIMITS stores legal limits and moves the
actuators into them, on the band; both answer what they stored, are BAD_VALUE otherwise, a light from 8 up among it,
and change nothing else. -/
def Obligations.RegBandsAndLimits : Prop :=
  ∀ (tag : Byte) (l : Light) (s : State), Ready s → NoOpen s →
    let r := s.regs.get l
    (∀ (x : Byte) (rest : List Byte), 8 ≤ x.toNat →
      (rest.length = 16 → exec (.regBands tag (x :: rest)) s = .next (replied 0xB2#8 tag [4#8] s)) ∧
      (rest.length = 14 → exec (.regLimits tag (x :: rest)) s = .next (replied 0xB3#8 tag [4#8] s))) ∧
    (∀ b : RegBands, b.fastLow < 65536 → b.leaveLow < 65536 → b.enterLow < 65536 → b.enterHigh < 65536 →
      b.leaveHigh < 65536 → b.fastHigh < 65536 → (∀ i, b.weights.get i < 256) →
      let bytes := le2 b.fastLow ++ le2 b.leaveLow ++ le2 b.enterLow ++ le2 b.enterHigh ++ le2 b.leaveHigh ++
        le2 b.fastHigh ++ quad1 b.weights
      let legal := b.fastLow < b.leaveLow ∧ b.leaveLow ≤ b.enterLow ∧ b.enterLow < b.enterHigh ∧
        b.enterHigh ≤ b.leaveHigh ∧ b.leaveHigh < b.fastHigh ∧ ∀ i, b.weights.get i ≤ 15
      let banded : Regulator := { r with bands := b }
      (legal → exec (.regBands tag (lightCode l :: bytes)) s =
        .next (replied 0xB2#8 tag ([0#8, lightCode l] ++ bytes) { s with regs := s.regs.set l banded })) ∧
      (¬legal → exec (.regBands tag (lightCode l :: bytes)) s = .next (replied 0xB2#8 tag [4#8] s))) ∧
    (∀ m : RegLimits, m.durMin < 65536 → m.durCeiling < 65536 → m.curFloor < 65536 → m.curCeiling < 65536 →
      m.durStep < 65536 → m.curStep < 256 → m.ratio < 256 → m.bandStep < 65536 →
      let bytes := le2 m.durMin ++ le2 m.durCeiling ++ le2 m.curFloor ++ le2 m.curCeiling ++ le2 m.durStep ++
        le1 m.curStep ++ le1 m.ratio ++ le2 m.bandStep
      let legal := 1 ≤ m.durMin ∧ m.durMin ≤ m.durCeiling ∧ m.durCeiling ≤ 20000 ∧ m.curFloor ≤ m.curCeiling ∧
        m.curCeiling ≤ 1023 ∧ 1 ≤ m.durStep ∧ m.durStep ≤ 1000 ∧ 1 ≤ m.curStep ∧ m.curStep ≤ 255 ∧
        m.bandStep ≤ 10000 ∧
        (0 < m.bandStep → m.durMin % m.bandStep = 0 ∧ m.durCeiling % m.bandStep = 0)
      let within := min (max r.duration m.durMin) m.durCeiling
      let duration := if 0 < m.bandStep then max (within - within % m.bandStep) m.durMin else within
      let current := min (max r.current m.curFloor) m.curCeiling
      let limited : Regulator := { r with limits := m, duration := duration, current := current }
      (legal → exec (.regLimits tag (lightCode l :: bytes)) s =
        .next (replied 0xB3#8 tag ([0#8, lightCode l] ++ bytes ++ le2 duration ++ le2 current)
          { s with regs := s.regs.set l limited })) ∧
      (¬legal → exec (.regLimits tag (lightCode l :: bytes)) s = .next (replied 0xB3#8 tag [4#8] s)))

/-- R107, R124: REG_GET and LIGHT_GET answer the whole record of the light as it stands and change nothing; a light
number from 8 up is BAD_VALUE. (That neither reply repeats the light is DEDUCED, log entry 21.) -/
def Obligations.RecordsRead : Prop :=
  ∀ (tag : Byte) (l : Light) (s : State), Ready s →
    (let r := s.regs.get l
     exec (.regGet tag [lightCode l]) s = .next (replied 0xB4#8 tag
       ([0#8, regModeCode r.mode, regStateCode r.state] ++ le2 r.duration ++ le2 r.current ++
        le2 r.limits.durMin ++ le2 r.limits.durCeiling ++ le2 r.limits.curFloor ++ le2 r.limits.curCeiling ++
        le2 r.limits.durStep ++ le1 r.limits.curStep ++ le1 r.limits.ratio ++ le2 r.limits.bandStep ++
        le2 r.bands.fastLow ++ le2 r.bands.leaveLow ++ le2 r.bands.enterLow ++ le2 r.bands.enterHigh ++
        le2 r.bands.leaveHigh ++ le2 r.bands.fastHigh ++ quad1 r.bands.weights ++ le4 r.sum ++ le1 r.count ++
        (match r.lastFigure with
         | some f => 1#8 :: le2 f
         | none => [0#8, 0#8, 0#8]) ++ [boolCode r.clipped]) s)) ∧
    (let c := s.lights.channels.get l
     exec (.lightGet tag [lightCode l]) s = .next (replied 0xB9#8 tag
       (0#8 :: (le4 c.heat ++ le4 c.heatLimit ++ le2 c.coolRate ++
        [boolCode c.faulted, boolCode (s.pins.faultLines.getLsbD l.val), boolCode c.firing.isSome])) s)) ∧
    (∀ x : Byte, 8 ≤ x.toNat →
      exec (.regGet tag [x]) s = .next (replied 0xB4#8 tag [4#8] s) ∧
      exec (.lightGet tag [x]) s = .next (replied 0xB9#8 tag [4#8] s) ∧
      exec (.faultClear tag [x]) s = .next (replied 0xBA#8 tag [4#8] s))

/-- R84 to R87: a figure input is refused by a regulator in OFF, forms no figure when all weights are 0, and else is
the weighted mean of the corrected readings, rounded down, added to the accumulator; it lies in 0..65535. A clip
notice is refused in OFF and else noted. -/
def Obligations.FigureFormed : Prop :=
  ∀ (readings baselines : Quad Nat) (r : Regulator),
    let w := r.bands.weights
    let total := w.q0 + w.q1 + w.q2 + w.q3
    let figure := (w.q0 * (readings.q0 - baselines.q0) + w.q1 * (readings.q1 - baselines.q1) +
      w.q2 * (readings.q2 - baselines.q2) + w.q3 * (readings.q3 - baselines.q3)) / total
    (r.mode = .off → takeFigure readings baselines r = r ∧ takeClip r = r) ∧
    (r.mode ≠ .off →
      (total = 0 → takeFigure readings baselines r = r) ∧
      (0 < total → takeFigure readings baselines r =
        { r with sum := r.sum + figure, count := r.count + 1, lastFigure := some figure }) ∧
      takeClip r = { r with clipped := true }) ∧
    (0 < total → (∀ i, readings.get i ≤ 65535) → figure ≤ 65535)

/-- R88 to R97: the cycle-close step of one regulator. Only AUTO with figures steps, on their mean; in band it is
STABLE with its actuators unmoved; too dim it is SAT_HIGH after a clip or at both ceilings, else CONVERGING with one
actuator raised, fast in fixed mode; too bright it is SAT_LOW at both lower limits, else CONVERGING with one actuator
lowered. The accumulator and the clip indication are cleared in every case. -/
def Obligations.CloseStepDecides : Prop :=
  ∀ r : Regulator, bandsValid r.bands = true →
    let cleared (r : Regulator) : Regulator := { r with sum := 0, count := 0, clipped := false }
    let f := r.sum / r.count
    let mid := (r.bands.enterLow + r.bands.enterHigh) / 2
    let k := if r.limits.ratio = 0 then 1
      else min 16 (1 + ((f - mid) + (mid - f)) * r.limits.ratio / 4096)
    let d := if 0 < r.limits.bandStep then r.limits.bandStep else r.limits.durStep
    let low := if r.state = .stable then r.bands.leaveLow else r.bands.enterLow
    let high := if r.state = .stable then r.bands.leaveHigh else r.bands.enterHigh
    let moved (duration current : Nat) : Regulator :=
      cleared { r with state := .converging, duration := duration, current := current }
    (r.mode ≠ .auto ∨ r.count = 0 → closeRegulator r = cleared r) ∧
    (r.mode = .auto → 0 < r.count →
      (low ≤ f → f ≤ high → closeRegulator r = cleared { r with state := .stable }) ∧
      (f < low →
        (r.clipped = true ∨ (r.duration = r.limits.durCeiling ∧ r.current = r.limits.curCeiling) →
          closeRegulator r = cleared { r with state := .satHigh }) ∧
        (r.clipped = false → r.duration ≠ r.limits.durCeiling ∨ r.current ≠ r.limits.curCeiling →
          (r.limits.ratio = 0 → f < r.bands.fastLow →
            (r.duration < r.limits.durCeiling →
              closeRegulator r = moved (min (2 * r.duration) r.limits.durCeiling) r.current) ∧
            (r.limits.durCeiling ≤ r.duration →
              closeRegulator r = moved r.duration
                (min (if r.current = 0 then r.limits.curStep else 2 * r.current) r.limits.curCeiling))) ∧
          (r.limits.ratio ≠ 0 ∨ r.bands.fastLow ≤ f →
            (r.duration < r.limits.durCeiling → 0 < r.limits.bandStep → r.duration < 16 * r.limits.bandStep →
              r.current < r.limits.curCeiling →
              closeRegulator r =
                moved r.duration (min (r.current + k * r.limits.curStep) r.limits.curCeiling)) ∧
            (r.duration < r.limits.durCeiling → r.limits.bandStep = 0 ∨ 16 * r.limits.bandStep ≤ r.duration ∨
              r.limits.curCeiling ≤ r.current →
              closeRegulator r = moved (min (r.duration + k * d) r.limits.durCeiling) r.current) ∧
            (r.limits.durCeiling ≤ r.duration →
              closeRegulator r =
                moved r.duration (min (r.current + k * r.limits.curStep) r.limits.curCeiling))))) ∧
      (high < f →
        (r.duration = r.limits.durMin → r.current = r.limits.curFloor →
          closeRegulator r = cleared { r with state := .satLow }) ∧
        (r.duration ≠ r.limits.durMin ∨ r.current ≠ r.limits.curFloor →
          (r.limits.ratio = 0 → r.bands.fastHigh < f →
            (r.limits.curFloor < r.current →
              closeRegulator r = moved r.duration (max (r.current / 2) r.limits.curFloor)) ∧
            (r.current ≤ r.limits.curFloor →
              closeRegulator r = moved
                (max (if 0 < r.limits.bandStep then r.duration / 2 - r.duration / 2 % r.limits.bandStep
                  else r.duration / 2) r.limits.durMin) r.current)) ∧
          (r.limits.ratio ≠ 0 ∨ f ≤ r.bands.fastHigh →
            (r.limits.curFloor < r.current →
              closeRegulator r =
                moved r.duration (max (r.current - k * r.limits.curStep) r.limits.curFloor)) ∧
            (r.current ≤ r.limits.curFloor →
              closeRegulator r = moved (max (r.duration - k * d) r.limits.durMin) r.current)))))

/-! ### Light channels (06_light_channels_duty_guard_and_fault_inputs.md) -/

/-- R117 to R120: a fault arrival latches a light not yet faulted, cuts it if it is on, raises its FAULT report and,
with fault_halts in DELAYING, RUNNING or PAUSED, a stop of kind FAULT; a faulted light it leaves alone but for the
line's level (no report then, R117 and R119 followed against R121's last sentence: DESIGN CHOICE, log entry 37). The
line's return changes the level only. -/
def Obligations.FaultLines : Prop :=
  ∀ (l : Light) (s : State), Resting s →
    ∃ up down : LightSet,
      (∀ k : Light, up.getLsbD k.val = (decide (k = l) || s.pins.faultLines.getLsbD k.val)) ∧
      (∀ k : Light, down.getLsbD k.val = (decide (k ≠ l) && s.pins.faultLines.getLsbD k.val)) ∧
      exec (.faultLineReturnToInactive l) s = .next { s with pins.faultLines := down } ∧
      ((s.lights.channels.get l).faulted = true →
        exec (.faultArrival l) s = .next { s with pins.faultLines := up }) ∧
      ((s.lights.channels.get l).faulted = false →
        let cut := (s.lights.channels.get l).firing.isSome
        let dark : LightChannel := { s.lights.channels.get l with faulted := true, firing := none }
        let stops := s.run.setup.faultHalts &&
          decide (s.run.state = .delaying ∨ s.run.state = .running ∨ s.run.state = .paused)
        ∃ t, t = raise .fault ([lightCode l, boolCode cut, runStateCode s.run.state] ++
              le4 s.seq.cycleNumber ++ [boolCode stops] ++ le4 (s.lights.channels.get l).heat)
            { s with
              pins.faultLines := up
              lights.channels := s.lights.channels.set l dark
              seq.shot := t.seq.shot } ∧
          (t.seq.shot = none ↔ s.seq.shot = none) ∧
          (∀ sh sh', s.seq.shot = some sh → t.seq.shot = some sh' →
            sh' = { sh with cut := sh'.cut } ∧
            ∀ k : Light, sh'.cut.getLsbD k.val = ((cut && decide (k = l)) || sh.cut.getLsbD k.val)) ∧
          exec (.faultArrival l) s = .next (startSend (if stops then stopEvent .fault t else t)))

/-- R115, R122, R108: FAULT_CLEAR with the line active is STILL_ACTIVE; with the line inactive it clears a latched
fault and sets an AUTO regulator CONVERGING, and changes nothing on a light not faulted. The duty timer's expiry cools
every light by its rate, never below 0, and runs for a further 1 ms. (That DUTY_TIMER_EXPIRY does nothing with the
timer stopped is the model's choice, log entry 3.) -/
def Obligations.FaultClearAndCooling : Prop :=
  (∀ (tag : Byte) (l : Light) (s : State), Ready s →
    let clear : LightChannel := { s.lights.channels.get l with faulted := false }
    let again : Regulator := { s.regs.get l with state := .converging }
    (s.pins.faultLines.getLsbD l.val = true →
      exec (.faultClear tag [lightCode l]) s = .next (replied 0xBA#8 tag [10#8] s)) ∧
    (s.pins.faultLines.getLsbD l.val = false →
      ((s.lights.channels.get l).faulted = false →
        exec (.faultClear tag [lightCode l]) s =
          .next (replied 0xBA#8 tag [0#8, lightCode l, 0#8, 0#8] s)) ∧
      ((s.lights.channels.get l).faulted = true → (s.regs.get l).mode ≠ .auto →
        exec (.faultClear tag [lightCode l]) s =
          .next (replied 0xBA#8 tag [0#8, lightCode l, 0#8, 0#8]
            { s with lights.channels := s.lights.channels.set l clear })) ∧
      ((s.lights.channels.get l).faulted = true → (s.regs.get l).mode = .auto →
        exec (.faultClear tag [lightCode l]) s =
          .next (replied 0xBA#8 tag [0#8, lightCode l, 0#8, 0#8]
            { s with lights.channels := s.lights.channels.set l clear, regs := s.regs.set l again })))) ∧
  (∀ s : State, Resting s →
    (s.lights.dutyTimer = none → exec .dutyTimerExpiry s = .next s) ∧
    (s.lights.dutyTimer ≠ none → exec .dutyTimerExpiry s = .next
      { s with lights := { channels := s.lights.channels.map fun c => { c with heat := c.heat - c.coolRate },
                           dutyTimer := some 1000 } }))

/-! ### The Result Queue (08_the_result_queue.md) -/

/-- R151, R153: RESULT_READ removes the k oldest records, k the smaller of n and the count, and answers them oldest
first behind k, the count left and lost (section 11.5.2); RESULT_FLUSH removes them all and answers how many, and
lost. Nothing else changes; n outside 1..12 is BAD_VALUE. The 19 bytes of a record are those of section 11.5.2,
offset by offset, numbers low byte first, the flags byte bit by bit. -/
def Obligations.ResultsReadAndFlushed : Prop :=
  ∀ (tag : Byte) (s : State), Ready s →
    (∀ n : Nat, 1 ≤ n → n ≤ 12 →
      let k := min n s.results.records.length
      exec (.resultRead tag (le1 n)) s = .next (replied 0xC8#8 tag
        (0#8 :: (le1 k ++ le2 (s.results.records.length - k) ++ le4 s.results.lost ++
          (s.results.records.take k).flatMap recordBytes))
        { s with results.records := s.results.records.drop k })) ∧
    (∀ n : Nat, n = 0 ∨ 12 < n → n < 256 →
      exec (.resultRead tag (le1 n)) s = .next (replied 0xC8#8 tag [4#8] s)) ∧
    exec (.resultFlush tag []) s = .next (replied 0xC9#8 tag
      (0#8 :: (le2 s.results.records.length ++ le4 s.results.lost)) { s with results.records := [] }) ∧
    (∀ r : ResultRecord, ∃ flags : Byte,
      recordBytes r =
        [BitVec.ofNat 8 r.cycle, BitVec.ofNat 8 (r.cycle / 256), BitVec.ofNat 8 (r.cycle / 65536),
         BitVec.ofNat 8 (r.cycle / 16777216), BitVec.ofNat 8 r.position, BitVec.ofNat 8 r.entry,
         BitVec.ofNat 8 r.readings.q0, BitVec.ofNat 8 (r.readings.q0 / 256),
         BitVec.ofNat 8 r.readings.q1, BitVec.ofNat 8 (r.readings.q1 / 256),
         BitVec.ofNat 8 r.readings.q2, BitVec.ofNat 8 (r.readings.q2 / 256),
         BitVec.ofNat 8 r.readings.q3, BitVec.ofNat 8 (r.readings.q3 / 256),
         r.markers.setWidth 8, r.fired, r.clipped, r.cut, flags] ∧
      flags.getLsbD 0 = r.unlocked ∧ flags.getLsbD 1 = r.test ∧ flags.getLsbD 2 = r.baseline ∧
      flags.getLsbD 3 = r.fixed ∧ ∀ n, 4 ≤ n → flags.getLsbD n = false)

/-! ### Driver supply (10_driver_supply_and_standby.md) -/

/-- R175, R176, R178, R180, R80: STANDBY and WAKE by supply mode, and the settle timer's expiry, each change with its
SUPPLY report and SUPEN; STANDBY in OPERATE is BUSY in a run or a test shot, and clears `sync_ok` without a report.
(That SETTLE_EXPIRY does nothing with the timer stopped is the model's choice, log entry 3.) -/
def Obligations.SupplyModes : Prop :=
  (∀ (tag : Byte) (s : State), Ready s →
    let down := changeSupply .standby .standby
      { s with supply.settleTimer := none, lock.syncOk := false, lock.watch := none }
    (s.supply.mode = .operate → s.run.state ≠ .idle ∨ s.seq.state = .testing →
      exec (.standby tag []) s = .next (replied 0xD0#8 tag [5#8] s)) ∧
    (s.supply.mode = .operate → s.run.state = .idle → s.seq.state ≠ .testing →
      exec (.standby tag []) s = .next (replied 0xD0#8 tag [0#8, 0#8] down)) ∧
    (s.supply.mode = .waking → exec (.standby tag []) s = .next (replied 0xD0#8 tag [0#8, 0#8] down)) ∧
    (s.supply.mode = .standby → exec (.standby tag []) s = .next (replied 0xD0#8 tag [0#8, 0#8] s)) ∧
    (s.supply.mode = .standby → exec (.wake tag []) s = .next (replied 0xD1#8 tag [0#8, 1#8]
      (changeSupply .waking .wake { s with supply.settleTimer := some (s.supply.settle * 1000) }))) ∧
    (s.supply.mode ≠ .standby →
      exec (.wake tag []) s = .next (replied 0xD1#8 tag [0#8, supplyModeCode s.supply.mode] s))) ∧
  (∀ s : State, Resting s →
    (s.supply.settleTimer = none → exec .settleExpiry s = .next s) ∧
    (s.supply.settleTimer ≠ none → exec .settleExpiry s =
      .next (startSend (changeSupply .operate .settle { s with supply.settleTimer := none }))))

/-! ### What every step keeps -/

/-- R9, R1, R28, R29, R73, R82, R83, R104, R105, R110, R117, R149, R174: every step keeps the regulators, the heat
accounts, the Shot Table, the Result Queue, the supply, the sync watch, the fault latches and the Sense Front End
sound. -/
def Obligations.StepKeepsBlocksSound : Prop :=
  ∀ s t : State, step s = .next t →
    (RegulatorsSound s → RegulatorsSound t) ∧ (HeatsSound s → HeatsSound t) ∧ (TableSound s → TableSound t) ∧
    (ResultsSound s → ResultsSound t) ∧ (SupplySound s → SupplySound t) ∧ (WatchSound s → WatchSound t) ∧
    (LinesLatched s → LinesLatched t) ∧ (SenseSound s → SenseSound t)

/-- R126, R127, R128, R142: every step keeps the Stage Unit sound: no bank holds more than its capacity or a record
that did not pass its capture checks, at most one bank is OPEN, and the alternation names two READY banks. -/
def Obligations.StepKeepsStageSound : Prop :=
  ∀ s t : State, StageSound s → step s = .next t → StageSound t

/-- R161, R164, R165, R159: every step keeps the Link Port sound: its queues within their capacities, its gap timer
running exactly while a frame is assembled, and nothing left undone between events. -/
def Obligations.StepKeepsLinkSound : Prop :=
  ∀ s t : State, LinkSound s → step s = .next t → LinkSound t

/-- R10, R21, R26, R28, R45, R49, R54, R64, R66, R111: every step keeps the run, the sequencer, the integrators, the
hold and the supply in agreement, and a light on only in the flash phase of a shot that fired it, not faulted, not
OFF, in OPERATE. -/
def Obligations.StepKeepsRunSound : Prop :=
  ∀ s t : State, RunSound s → step s = .next t → RunSound t

/-- The state after reset has every one of these properties. (It is the state at the completion of a power-on reset:
DEDUCED, log entry 1; the levels of its input pins are the model's choice, log entry 2.) -/
def Obligations.ResetIsSound : Prop :=
  RegulatorsSound State.reset ∧ HeatsSound State.reset ∧ TableSound State.reset ∧ ResultsSound State.reset ∧
  SupplySound State.reset ∧ WatchSound State.reset ∧ LinesLatched State.reset ∧ StageSound State.reset ∧
  LinkSound State.reset ∧ RunSound State.reset ∧ SenseSound State.reset
end

