-- ==== Sys2Proof/Laws/Collections.lean ====
section
/-!
SUPPORT. Laws of the eightfold and fourfold collections and of sets of lights: what `get` reads after `ofFn`,
`map` and `set`, and which lights are members of a built set.
-/

namespace Sys2Proof

@[simp] theorem Octet.get_ofFn {α : Type} (f : Light → α) (i : Light) : (Octet.ofFn f).get i = f i := by
  fin_cases i <;> rfl

@[simp] theorem Octet.get_map {α β : Type} (f : α → β) (o : Octet α) (i : Light) :
    (o.map f).get i = f (o.get i) := by
  simp [Octet.map]

theorem Octet.get_set {α : Type} (o : Octet α) (i j : Light) (x : α) :
    (o.set i x).get j = if j = i then x else o.get j := by
  simp [Octet.set]

@[simp] theorem Octet.get_set_same {α : Type} (o : Octet α) (i : Light) (x : α) : (o.set i x).get i = x := by
  simp [Octet.get_set]

theorem Octet.get_set_other {α : Type} (o : Octet α) {i j : Light} (x : α) (h : j ≠ i) :
    (o.set i x).get j = o.get j := by
  simp [Octet.get_set, h]

/-- Two eightfold collections are equal when they agree at every light. -/
theorem Octet.ext_get {α : Type} {o p : Octet α} (h : ∀ i, o.get i = p.get i) : o = p := by
  cases o; cases p
  have h0 := h 0; have h1 := h 1; have h2 := h 2; have h3 := h 3
  have h4 := h 4; have h5 := h 5; have h6 := h 6; have h7 := h 7
  simp only [Octet.get] at h0 h1 h2 h3 h4 h5 h6 h7
  subst h0 h1 h2 h3 h4 h5 h6 h7; rfl

/-- Writing what is there changes nothing. -/
theorem Octet.set_get {α : Type} (o : Octet α) (i : Light) : o.set i (o.get i) = o := by
  apply Octet.ext_get
  intro j
  rw [Octet.get_set]
  split
  · next h => rw [h]
  · rfl

@[simp] theorem Quad.get_ofFn {α : Type} (f : Fin 4 → α) (i : Fin 4) : (Quad.ofFn f).get i = f i := by
  fin_cases i <;> rfl

@[simp] theorem Quad.get_map {α β : Type} (f : α → β) (o : Quad α) (i : Fin 4) :
    (o.map f).get i = f (o.get i) := by
  simp [Quad.map]

theorem Quad.get_set {α : Type} (o : Quad α) (i j : Fin 4) (x : α) :
    (o.set i x).get j = if j = i then x else o.get j := by
  simp [Quad.set]

@[simp] theorem Quad.get_set_same {α : Type} (o : Quad α) (i : Fin 4) (x : α) : (o.set i x).get i = x := by
  simp [Quad.get_set]

theorem Quad.get_set_other {α : Type} (o : Quad α) {i j : Fin 4} (x : α) (h : j ≠ i) :
    (o.set i x).get j = o.get j := by
  simp [Quad.get_set, h]

namespace Machine

/-- One bit of a byte that is a weight or nothing. -/
theorem getLsbD_weight (b : Bool) (w : BitVec 8) (n : Nat) :
    (bif b then w else 0#8).getLsbD n = (b && w.getLsbD n) := by
  cases b <;> simp

/-- A set built from its members holds exactly them (R183). -/
@[simp] theorem hasLight_lightsWhere (f : Light → Bool) (i : Light) : hasLight (lightsWhere f) i = f i := by
  simp only [lightsWhere, hasLight, BitVec.getLsbD_or, getLsbD_weight]
  fin_cases i <;> simp

/-- Membership after a light joins a set. -/
@[simp] theorem hasLight_addLight (s : LightSet) (i j : Light) :
    hasLight (addLight s i) j = (j == i || hasLight s j) := by
  simp [addLight]

/-- Membership after a light leaves a set. -/
@[simp] theorem hasLight_dropLight (s : LightSet) (i j : Light) :
    hasLight (dropLight s i) j = (j != i && hasLight s j) := by
  simp [dropLight]

end Machine

end Sys2Proof
end

