-- ==== Sys2Proof/Laws/State.lean ====
section
/-!
SUPPORT. What each field of the state reads after each named update: the fields an update does not write, one
lemma each, so that no proof unfolds a record update.
-/

namespace Sys2Proof.Machine

@[simp] theorem lightOff_table (l : Light) (s : State) : (lightOff l s).table = s.table := rfl
@[simp] theorem lightOff_seq (l : Light) (s : State) : (lightOff l s).seq = s.seq := rfl
@[simp] theorem lightOff_sense (l : Light) (s : State) : (lightOff l s).sense = s.sense := rfl
@[simp] theorem lightOff_regs (l : Light) (s : State) : (lightOff l s).regs = s.regs := rfl
@[simp] theorem lightOff_run (l : Light) (s : State) : (lightOff l s).run = s.run := rfl
@[simp] theorem lightOff_lock (l : Light) (s : State) : (lightOff l s).lock = s.lock := rfl
@[simp] theorem lightOff_stage (l : Light) (s : State) : (lightOff l s).stage = s.stage := rfl
@[simp] theorem lightOff_results (l : Light) (s : State) : (lightOff l s).results = s.results := rfl
@[simp] theorem lightOff_link (l : Light) (s : State) : (lightOff l s).link = s.link := rfl
@[simp] theorem lightOff_supply (l : Light) (s : State) : (lightOff l s).supply = s.supply := rfl
@[simp] theorem lightOff_pins (l : Light) (s : State) : (lightOff l s).pins = s.pins := rfl
@[simp] theorem lightOff_resetCause (l : Light) (s : State) : (lightOff l s).resetCause = s.resetCause := rfl
@[simp] theorem lightOff_pending (l : Light) (s : State) : (lightOff l s).pending = s.pending := rfl

@[simp] theorem allLightsOff_table (s : State) : (allLightsOff s).table = s.table := rfl
@[simp] theorem allLightsOff_seq (s : State) : (allLightsOff s).seq = s.seq := rfl
@[simp] theorem allLightsOff_sense (s : State) : (allLightsOff s).sense = s.sense := rfl
@[simp] theorem allLightsOff_regs (s : State) : (allLightsOff s).regs = s.regs := rfl
@[simp] theorem allLightsOff_run (s : State) : (allLightsOff s).run = s.run := rfl
@[simp] theorem allLightsOff_lock (s : State) : (allLightsOff s).lock = s.lock := rfl
@[simp] theorem allLightsOff_stage (s : State) : (allLightsOff s).stage = s.stage := rfl
@[simp] theorem allLightsOff_results (s : State) : (allLightsOff s).results = s.results := rfl
@[simp] theorem allLightsOff_link (s : State) : (allLightsOff s).link = s.link := rfl
@[simp] theorem allLightsOff_supply (s : State) : (allLightsOff s).supply = s.supply := rfl
@[simp] theorem allLightsOff_pins (s : State) : (allLightsOff s).pins = s.pins := rfl
@[simp] theorem allLightsOff_resetCause (s : State) : (allLightsOff s).resetCause = s.resetCause := rfl
@[simp] theorem allLightsOff_pending (s : State) : (allLightsOff s).pending = s.pending := rfl

@[simp] theorem updateReg_table (l : Light) (f : Regulator → Regulator) (s : State) : (updateReg l f s).table = s.table := rfl
@[simp] theorem updateReg_seq (l : Light) (f : Regulator → Regulator) (s : State) : (updateReg l f s).seq = s.seq := rfl
@[simp] theorem updateReg_sense (l : Light) (f : Regulator → Regulator) (s : State) : (updateReg l f s).sense = s.sense := rfl
@[simp] theorem updateReg_lights (l : Light) (f : Regulator → Regulator) (s : State) : (updateReg l f s).lights = s.lights := rfl
@[simp] theorem updateReg_run (l : Light) (f : Regulator → Regulator) (s : State) : (updateReg l f s).run = s.run := rfl
@[simp] theorem updateReg_lock (l : Light) (f : Regulator → Regulator) (s : State) : (updateReg l f s).lock = s.lock := rfl
@[simp] theorem updateReg_stage (l : Light) (f : Regulator → Regulator) (s : State) : (updateReg l f s).stage = s.stage := rfl
@[simp] theorem updateReg_results (l : Light) (f : Regulator → Regulator) (s : State) : (updateReg l f s).results = s.results := rfl
@[simp] theorem updateReg_link (l : Light) (f : Regulator → Regulator) (s : State) : (updateReg l f s).link = s.link := rfl
@[simp] theorem updateReg_supply (l : Light) (f : Regulator → Regulator) (s : State) : (updateReg l f s).supply = s.supply := rfl
@[simp] theorem updateReg_pins (l : Light) (f : Regulator → Regulator) (s : State) : (updateReg l f s).pins = s.pins := rfl
@[simp] theorem updateReg_resetCause (l : Light) (f : Regulator → Regulator) (s : State) : (updateReg l f s).resetCause = s.resetCause := rfl
@[simp] theorem updateReg_pending (l : Light) (f : Regulator → Regulator) (s : State) : (updateReg l f s).pending = s.pending := rfl

@[simp] theorem updateRegs_table (f : Regulator → Regulator) (s : State) : (updateRegs f s).table = s.table := rfl
@[simp] theorem updateRegs_seq (f : Regulator → Regulator) (s : State) : (updateRegs f s).seq = s.seq := rfl
@[simp] theorem updateRegs_sense (f : Regulator → Regulator) (s : State) : (updateRegs f s).sense = s.sense := rfl
@[simp] theorem updateRegs_lights (f : Regulator → Regulator) (s : State) : (updateRegs f s).lights = s.lights := rfl
@[simp] theorem updateRegs_run (f : Regulator → Regulator) (s : State) : (updateRegs f s).run = s.run := rfl
@[simp] theorem updateRegs_lock (f : Regulator → Regulator) (s : State) : (updateRegs f s).lock = s.lock := rfl
@[simp] theorem updateRegs_stage (f : Regulator → Regulator) (s : State) : (updateRegs f s).stage = s.stage := rfl
@[simp] theorem updateRegs_results (f : Regulator → Regulator) (s : State) : (updateRegs f s).results = s.results := rfl
@[simp] theorem updateRegs_link (f : Regulator → Regulator) (s : State) : (updateRegs f s).link = s.link := rfl
@[simp] theorem updateRegs_supply (f : Regulator → Regulator) (s : State) : (updateRegs f s).supply = s.supply := rfl
@[simp] theorem updateRegs_pins (f : Regulator → Regulator) (s : State) : (updateRegs f s).pins = s.pins := rfl
@[simp] theorem updateRegs_resetCause (f : Regulator → Regulator) (s : State) : (updateRegs f s).resetCause = s.resetCause := rfl
@[simp] theorem updateRegs_pending (f : Regulator → Regulator) (s : State) : (updateRegs f s).pending = s.pending := rfl

@[simp] theorem updateLight_table (l : Light) (f : LightChannel → LightChannel) (s : State) : (updateLight l f s).table = s.table := rfl
@[simp] theorem updateLight_seq (l : Light) (f : LightChannel → LightChannel) (s : State) : (updateLight l f s).seq = s.seq := rfl
@[simp] theorem updateLight_sense (l : Light) (f : LightChannel → LightChannel) (s : State) : (updateLight l f s).sense = s.sense := rfl
@[simp] theorem updateLight_regs (l : Light) (f : LightChannel → LightChannel) (s : State) : (updateLight l f s).regs = s.regs := rfl
@[simp] theorem updateLight_run (l : Light) (f : LightChannel → LightChannel) (s : State) : (updateLight l f s).run = s.run := rfl
@[simp] theorem updateLight_lock (l : Light) (f : LightChannel → LightChannel) (s : State) : (updateLight l f s).lock = s.lock := rfl
@[simp] theorem updateLight_stage (l : Light) (f : LightChannel → LightChannel) (s : State) : (updateLight l f s).stage = s.stage := rfl
@[simp] theorem updateLight_results (l : Light) (f : LightChannel → LightChannel) (s : State) : (updateLight l f s).results = s.results := rfl
@[simp] theorem updateLight_link (l : Light) (f : LightChannel → LightChannel) (s : State) : (updateLight l f s).link = s.link := rfl
@[simp] theorem updateLight_supply (l : Light) (f : LightChannel → LightChannel) (s : State) : (updateLight l f s).supply = s.supply := rfl
@[simp] theorem updateLight_pins (l : Light) (f : LightChannel → LightChannel) (s : State) : (updateLight l f s).pins = s.pins := rfl
@[simp] theorem updateLight_resetCause (l : Light) (f : LightChannel → LightChannel) (s : State) : (updateLight l f s).resetCause = s.resetCause := rfl
@[simp] theorem updateLight_pending (l : Light) (f : LightChannel → LightChannel) (s : State) : (updateLight l f s).pending = s.pending := rfl

@[simp] theorem setBank_table (b : Fin 4) (k : Bank) (s : State) : (setBank b k s).table = s.table := rfl
@[simp] theorem setBank_seq (b : Fin 4) (k : Bank) (s : State) : (setBank b k s).seq = s.seq := rfl
@[simp] theorem setBank_sense (b : Fin 4) (k : Bank) (s : State) : (setBank b k s).sense = s.sense := rfl
@[simp] theorem setBank_regs (b : Fin 4) (k : Bank) (s : State) : (setBank b k s).regs = s.regs := rfl
@[simp] theorem setBank_lights (b : Fin 4) (k : Bank) (s : State) : (setBank b k s).lights = s.lights := rfl
@[simp] theorem setBank_run (b : Fin 4) (k : Bank) (s : State) : (setBank b k s).run = s.run := rfl
@[simp] theorem setBank_lock (b : Fin 4) (k : Bank) (s : State) : (setBank b k s).lock = s.lock := rfl
@[simp] theorem setBank_results (b : Fin 4) (k : Bank) (s : State) : (setBank b k s).results = s.results := rfl
@[simp] theorem setBank_link (b : Fin 4) (k : Bank) (s : State) : (setBank b k s).link = s.link := rfl
@[simp] theorem setBank_supply (b : Fin 4) (k : Bank) (s : State) : (setBank b k s).supply = s.supply := rfl
@[simp] theorem setBank_pins (b : Fin 4) (k : Bank) (s : State) : (setBank b k s).pins = s.pins := rfl
@[simp] theorem setBank_resetCause (b : Fin 4) (k : Bank) (s : State) : (setBank b k s).resetCause = s.resetCause := rfl
@[simp] theorem setBank_pending (b : Fin 4) (k : Bank) (s : State) : (setBank b k s).pending = s.pending := rfl

@[simp] theorem pushReply_table (f : Frame) (s : State) : (pushReply f s).table = s.table := rfl
@[simp] theorem pushReply_seq (f : Frame) (s : State) : (pushReply f s).seq = s.seq := rfl
@[simp] theorem pushReply_sense (f : Frame) (s : State) : (pushReply f s).sense = s.sense := rfl
@[simp] theorem pushReply_regs (f : Frame) (s : State) : (pushReply f s).regs = s.regs := rfl
@[simp] theorem pushReply_lights (f : Frame) (s : State) : (pushReply f s).lights = s.lights := rfl
@[simp] theorem pushReply_run (f : Frame) (s : State) : (pushReply f s).run = s.run := rfl
@[simp] theorem pushReply_lock (f : Frame) (s : State) : (pushReply f s).lock = s.lock := rfl
@[simp] theorem pushReply_stage (f : Frame) (s : State) : (pushReply f s).stage = s.stage := rfl
@[simp] theorem pushReply_results (f : Frame) (s : State) : (pushReply f s).results = s.results := rfl
@[simp] theorem pushReply_supply (f : Frame) (s : State) : (pushReply f s).supply = s.supply := rfl
@[simp] theorem pushReply_pins (f : Frame) (s : State) : (pushReply f s).pins = s.pins := rfl
@[simp] theorem pushReply_resetCause (f : Frame) (s : State) : (pushReply f s).resetCause = s.resetCause := rfl
@[simp] theorem pushReply_pending (f : Frame) (s : State) : (pushReply f s).pending = s.pending := rfl

@[simp] theorem setTrig_table (a : Bool) (s : State) : (setTrig a s).table = s.table := rfl
@[simp] theorem setTrig_seq (a : Bool) (s : State) : (setTrig a s).seq = s.seq := rfl
@[simp] theorem setTrig_sense (a : Bool) (s : State) : (setTrig a s).sense = s.sense := rfl
@[simp] theorem setTrig_regs (a : Bool) (s : State) : (setTrig a s).regs = s.regs := rfl
@[simp] theorem setTrig_lights (a : Bool) (s : State) : (setTrig a s).lights = s.lights := rfl
@[simp] theorem setTrig_run (a : Bool) (s : State) : (setTrig a s).run = s.run := rfl
@[simp] theorem setTrig_lock (a : Bool) (s : State) : (setTrig a s).lock = s.lock := rfl
@[simp] theorem setTrig_stage (a : Bool) (s : State) : (setTrig a s).stage = s.stage := rfl
@[simp] theorem setTrig_results (a : Bool) (s : State) : (setTrig a s).results = s.results := rfl
@[simp] theorem setTrig_link (a : Bool) (s : State) : (setTrig a s).link = s.link := rfl
@[simp] theorem setTrig_supply (a : Bool) (s : State) : (setTrig a s).supply = s.supply := rfl
@[simp] theorem setTrig_resetCause (a : Bool) (s : State) : (setTrig a s).resetCause = s.resetCause := rfl
@[simp] theorem setTrig_pending (a : Bool) (s : State) : (setTrig a s).pending = s.pending := rfl

@[simp] theorem setFaultLine_table (l : Light) (a : Bool) (s : State) : (setFaultLine l a s).table = s.table := rfl
@[simp] theorem setFaultLine_seq (l : Light) (a : Bool) (s : State) : (setFaultLine l a s).seq = s.seq := rfl
@[simp] theorem setFaultLine_sense (l : Light) (a : Bool) (s : State) : (setFaultLine l a s).sense = s.sense := rfl
@[simp] theorem setFaultLine_regs (l : Light) (a : Bool) (s : State) : (setFaultLine l a s).regs = s.regs := rfl
@[simp] theorem setFaultLine_lights (l : Light) (a : Bool) (s : State) : (setFaultLine l a s).lights = s.lights := rfl
@[simp] theorem setFaultLine_run (l : Light) (a : Bool) (s : State) : (setFaultLine l a s).run = s.run := rfl
@[simp] theorem setFaultLine_lock (l : Light) (a : Bool) (s : State) : (setFaultLine l a s).lock = s.lock := rfl
@[simp] theorem setFaultLine_stage (l : Light) (a : Bool) (s : State) : (setFaultLine l a s).stage = s.stage := rfl
@[simp] theorem setFaultLine_results (l : Light) (a : Bool) (s : State) : (setFaultLine l a s).results = s.results := rfl
@[simp] theorem setFaultLine_link (l : Light) (a : Bool) (s : State) : (setFaultLine l a s).link = s.link := rfl
@[simp] theorem setFaultLine_supply (l : Light) (a : Bool) (s : State) : (setFaultLine l a s).supply = s.supply := rfl
@[simp] theorem setFaultLine_resetCause (l : Light) (a : Bool) (s : State) : (setFaultLine l a s).resetCause = s.resetCause := rfl
@[simp] theorem setFaultLine_pending (l : Light) (a : Bool) (s : State) : (setFaultLine l a s).pending = s.pending := rfl

@[simp] theorem openRun_table (s : State) : (openRun s).table = s.table := rfl
@[simp] theorem openRun_sense (s : State) : (openRun s).sense = s.sense := rfl
@[simp] theorem openRun_regs (s : State) : (openRun s).regs = s.regs := rfl
@[simp] theorem openRun_lights (s : State) : (openRun s).lights = s.lights := rfl
@[simp] theorem openRun_lock (s : State) : (openRun s).lock = s.lock := rfl
@[simp] theorem openRun_stage (s : State) : (openRun s).stage = s.stage := rfl
@[simp] theorem openRun_results (s : State) : (openRun s).results = s.results := rfl
@[simp] theorem openRun_link (s : State) : (openRun s).link = s.link := rfl
@[simp] theorem openRun_supply (s : State) : (openRun s).supply = s.supply := rfl
@[simp] theorem openRun_pins (s : State) : (openRun s).pins = s.pins := rfl
@[simp] theorem openRun_resetCause (s : State) : (openRun s).resetCause = s.resetCause := rfl
@[simp] theorem openRun_pending (s : State) : (openRun s).pending = s.pending := rfl

@[simp] theorem closeRun_table (s : State) : (closeRun s).table = s.table := rfl
@[simp] theorem closeRun_sense (s : State) : (closeRun s).sense = s.sense := rfl
@[simp] theorem closeRun_regs (s : State) : (closeRun s).regs = s.regs := rfl
@[simp] theorem closeRun_lights (s : State) : (closeRun s).lights = s.lights := rfl
@[simp] theorem closeRun_lock (s : State) : (closeRun s).lock = s.lock := rfl
@[simp] theorem closeRun_stage (s : State) : (closeRun s).stage = s.stage := rfl
@[simp] theorem closeRun_results (s : State) : (closeRun s).results = s.results := rfl
@[simp] theorem closeRun_link (s : State) : (closeRun s).link = s.link := rfl
@[simp] theorem closeRun_supply (s : State) : (closeRun s).supply = s.supply := rfl
@[simp] theorem closeRun_pins (s : State) : (closeRun s).pins = s.pins := rfl
@[simp] theorem closeRun_resetCause (s : State) : (closeRun s).resetCause = s.resetCause := rfl
@[simp] theorem closeRun_pending (s : State) : (closeRun s).pending = s.pending := rfl

@[simp] theorem stopRun_table (s : State) : (stopRun s).table = s.table := rfl
@[simp] theorem stopRun_seq (s : State) : (stopRun s).seq = s.seq := rfl
@[simp] theorem stopRun_sense (s : State) : (stopRun s).sense = s.sense := rfl
@[simp] theorem stopRun_regs (s : State) : (stopRun s).regs = s.regs := rfl
@[simp] theorem stopRun_lights (s : State) : (stopRun s).lights = s.lights := rfl
@[simp] theorem stopRun_lock (s : State) : (stopRun s).lock = s.lock := rfl
@[simp] theorem stopRun_stage (s : State) : (stopRun s).stage = s.stage := rfl
@[simp] theorem stopRun_results (s : State) : (stopRun s).results = s.results := rfl
@[simp] theorem stopRun_link (s : State) : (stopRun s).link = s.link := rfl
@[simp] theorem stopRun_supply (s : State) : (stopRun s).supply = s.supply := rfl
@[simp] theorem stopRun_pins (s : State) : (stopRun s).pins = s.pins := rfl
@[simp] theorem stopRun_resetCause (s : State) : (stopRun s).resetCause = s.resetCause := rfl
@[simp] theorem stopRun_pending (s : State) : (stopRun s).pending = s.pending := rfl

@[simp] theorem noteStop_table (k : StopKind) (s : State) : (noteStop k s).table = s.table := rfl
@[simp] theorem noteStop_seq (k : StopKind) (s : State) : (noteStop k s).seq = s.seq := rfl
@[simp] theorem noteStop_sense (k : StopKind) (s : State) : (noteStop k s).sense = s.sense := rfl
@[simp] theorem noteStop_regs (k : StopKind) (s : State) : (noteStop k s).regs = s.regs := rfl
@[simp] theorem noteStop_lights (k : StopKind) (s : State) : (noteStop k s).lights = s.lights := rfl
@[simp] theorem noteStop_lock (k : StopKind) (s : State) : (noteStop k s).lock = s.lock := rfl
@[simp] theorem noteStop_stage (k : StopKind) (s : State) : (noteStop k s).stage = s.stage := rfl
@[simp] theorem noteStop_results (k : StopKind) (s : State) : (noteStop k s).results = s.results := rfl
@[simp] theorem noteStop_link (k : StopKind) (s : State) : (noteStop k s).link = s.link := rfl
@[simp] theorem noteStop_supply (k : StopKind) (s : State) : (noteStop k s).supply = s.supply := rfl
@[simp] theorem noteStop_pins (k : StopKind) (s : State) : (noteStop k s).pins = s.pins := rfl
@[simp] theorem noteStop_resetCause (k : StopKind) (s : State) : (noteStop k s).resetCause = s.resetCause := rfl
@[simp] theorem noteStop_pending (k : StopKind) (s : State) : (noteStop k s).pending = s.pending := rfl

@[simp] theorem countMissed_table (s : State) : (countMissed s).table = s.table := rfl
@[simp] theorem countMissed_sense (s : State) : (countMissed s).sense = s.sense := rfl
@[simp] theorem countMissed_regs (s : State) : (countMissed s).regs = s.regs := rfl
@[simp] theorem countMissed_lights (s : State) : (countMissed s).lights = s.lights := rfl
@[simp] theorem countMissed_lock (s : State) : (countMissed s).lock = s.lock := rfl
@[simp] theorem countMissed_stage (s : State) : (countMissed s).stage = s.stage := rfl
@[simp] theorem countMissed_results (s : State) : (countMissed s).results = s.results := rfl
@[simp] theorem countMissed_link (s : State) : (countMissed s).link = s.link := rfl
@[simp] theorem countMissed_supply (s : State) : (countMissed s).supply = s.supply := rfl
@[simp] theorem countMissed_pins (s : State) : (countMissed s).pins = s.pins := rfl
@[simp] theorem countMissed_resetCause (s : State) : (countMissed s).resetCause = s.resetCause := rfl
@[simp] theorem countMissed_pending (s : State) : (countMissed s).pending = s.pending := rfl

@[simp] theorem openRecord_table (s : State) : (openRecord s).table = s.table := rfl
@[simp] theorem openRecord_sense (s : State) : (openRecord s).sense = s.sense := rfl
@[simp] theorem openRecord_regs (s : State) : (openRecord s).regs = s.regs := rfl
@[simp] theorem openRecord_lights (s : State) : (openRecord s).lights = s.lights := rfl
@[simp] theorem openRecord_run (s : State) : (openRecord s).run = s.run := rfl
@[simp] theorem openRecord_lock (s : State) : (openRecord s).lock = s.lock := rfl
@[simp] theorem openRecord_stage (s : State) : (openRecord s).stage = s.stage := rfl
@[simp] theorem openRecord_results (s : State) : (openRecord s).results = s.results := rfl
@[simp] theorem openRecord_link (s : State) : (openRecord s).link = s.link := rfl
@[simp] theorem openRecord_supply (s : State) : (openRecord s).supply = s.supply := rfl
@[simp] theorem openRecord_pins (s : State) : (openRecord s).pins = s.pins := rfl
@[simp] theorem openRecord_resetCause (s : State) : (openRecord s).resetCause = s.resetCause := rfl
@[simp] theorem openRecord_pending (s : State) : (openRecord s).pending = s.pending := rfl

@[simp] theorem clearSync_table (s : State) : (clearSync s).table = s.table := rfl
@[simp] theorem clearSync_seq (s : State) : (clearSync s).seq = s.seq := rfl
@[simp] theorem clearSync_sense (s : State) : (clearSync s).sense = s.sense := rfl
@[simp] theorem clearSync_regs (s : State) : (clearSync s).regs = s.regs := rfl
@[simp] theorem clearSync_lights (s : State) : (clearSync s).lights = s.lights := rfl
@[simp] theorem clearSync_run (s : State) : (clearSync s).run = s.run := rfl
@[simp] theorem clearSync_stage (s : State) : (clearSync s).stage = s.stage := rfl
@[simp] theorem clearSync_results (s : State) : (clearSync s).results = s.results := rfl
@[simp] theorem clearSync_link (s : State) : (clearSync s).link = s.link := rfl
@[simp] theorem clearSync_supply (s : State) : (clearSync s).supply = s.supply := rfl
@[simp] theorem clearSync_pins (s : State) : (clearSync s).pins = s.pins := rfl
@[simp] theorem clearSync_resetCause (s : State) : (clearSync s).resetCause = s.resetCause := rfl
@[simp] theorem clearSync_pending (s : State) : (clearSync s).pending = s.pending := rfl

@[simp] theorem quietSequencer_table (s : State) : (quietSequencer s).table = s.table := rfl
@[simp] theorem quietSequencer_sense (s : State) : (quietSequencer s).sense = s.sense := rfl
@[simp] theorem quietSequencer_regs (s : State) : (quietSequencer s).regs = s.regs := rfl
@[simp] theorem quietSequencer_lights (s : State) : (quietSequencer s).lights = s.lights := rfl
@[simp] theorem quietSequencer_run (s : State) : (quietSequencer s).run = s.run := rfl
@[simp] theorem quietSequencer_lock (s : State) : (quietSequencer s).lock = s.lock := rfl
@[simp] theorem quietSequencer_stage (s : State) : (quietSequencer s).stage = s.stage := rfl
@[simp] theorem quietSequencer_results (s : State) : (quietSequencer s).results = s.results := rfl
@[simp] theorem quietSequencer_link (s : State) : (quietSequencer s).link = s.link := rfl
@[simp] theorem quietSequencer_supply (s : State) : (quietSequencer s).supply = s.supply := rfl
@[simp] theorem quietSequencer_pins (s : State) : (quietSequencer s).pins = s.pins := rfl
@[simp] theorem quietSequencer_resetCause (s : State) : (quietSequencer s).resetCause = s.resetCause := rfl
@[simp] theorem quietSequencer_pending (s : State) : (quietSequencer s).pending = s.pending := rfl

@[simp] theorem raise_table (k : ReportKind) (p : List Byte) (s : State) : (raise k p s).table = s.table := by unfold raise; split <;> (try split) <;> rfl
@[simp] theorem raise_seq (k : ReportKind) (p : List Byte) (s : State) : (raise k p s).seq = s.seq := by unfold raise; split <;> (try split) <;> rfl
@[simp] theorem raise_sense (k : ReportKind) (p : List Byte) (s : State) : (raise k p s).sense = s.sense := by unfold raise; split <;> (try split) <;> rfl
@[simp] theorem raise_regs (k : ReportKind) (p : List Byte) (s : State) : (raise k p s).regs = s.regs := by unfold raise; split <;> (try split) <;> rfl
@[simp] theorem raise_lights (k : ReportKind) (p : List Byte) (s : State) : (raise k p s).lights = s.lights := by unfold raise; split <;> (try split) <;> rfl
@[simp] theorem raise_run (k : ReportKind) (p : List Byte) (s : State) : (raise k p s).run = s.run := by unfold raise; split <;> (try split) <;> rfl
@[simp] theorem raise_lock (k : ReportKind) (p : List Byte) (s : State) : (raise k p s).lock = s.lock := by unfold raise; split <;> (try split) <;> rfl
@[simp] theorem raise_stage (k : ReportKind) (p : List Byte) (s : State) : (raise k p s).stage = s.stage := by unfold raise; split <;> (try split) <;> rfl
@[simp] theorem raise_results (k : ReportKind) (p : List Byte) (s : State) : (raise k p s).results = s.results := by unfold raise; split <;> (try split) <;> rfl
@[simp] theorem raise_supply (k : ReportKind) (p : List Byte) (s : State) : (raise k p s).supply = s.supply := by unfold raise; split <;> (try split) <;> rfl
@[simp] theorem raise_pins (k : ReportKind) (p : List Byte) (s : State) : (raise k p s).pins = s.pins := by unfold raise; split <;> (try split) <;> rfl
@[simp] theorem raise_resetCause (k : ReportKind) (p : List Byte) (s : State) : (raise k p s).resetCause = s.resetCause := by unfold raise; split <;> (try split) <;> rfl
@[simp] theorem raise_pending (k : ReportKind) (p : List Byte) (s : State) : (raise k p s).pending = s.pending := by unfold raise; split <;> (try split) <;> rfl

@[simp] theorem startSend_table (s : State) : (startSend s).table = s.table := by unfold startSend; split <;> (try split) <;> (try split) <;> rfl
@[simp] theorem startSend_seq (s : State) : (startSend s).seq = s.seq := by unfold startSend; split <;> (try split) <;> (try split) <;> rfl
@[simp] theorem startSend_sense (s : State) : (startSend s).sense = s.sense := by unfold startSend; split <;> (try split) <;> (try split) <;> rfl
@[simp] theorem startSend_regs (s : State) : (startSend s).regs = s.regs := by unfold startSend; split <;> (try split) <;> (try split) <;> rfl
@[simp] theorem startSend_lights (s : State) : (startSend s).lights = s.lights := by unfold startSend; split <;> (try split) <;> (try split) <;> rfl
@[simp] theorem startSend_run (s : State) : (startSend s).run = s.run := by unfold startSend; split <;> (try split) <;> (try split) <;> rfl
@[simp] theorem startSend_lock (s : State) : (startSend s).lock = s.lock := by unfold startSend; split <;> (try split) <;> (try split) <;> rfl
@[simp] theorem startSend_stage (s : State) : (startSend s).stage = s.stage := by unfold startSend; split <;> (try split) <;> (try split) <;> rfl
@[simp] theorem startSend_results (s : State) : (startSend s).results = s.results := by unfold startSend; split <;> (try split) <;> (try split) <;> rfl
@[simp] theorem startSend_supply (s : State) : (startSend s).supply = s.supply := by unfold startSend; split <;> (try split) <;> (try split) <;> rfl
@[simp] theorem startSend_pins (s : State) : (startSend s).pins = s.pins := by unfold startSend; split <;> (try split) <;> (try split) <;> rfl
@[simp] theorem startSend_resetCause (s : State) : (startSend s).resetCause = s.resetCause := by unfold startSend; split <;> (try split) <;> (try split) <;> rfl
@[simp] theorem startSend_pending (s : State) : (startSend s).pending = s.pending := by unfold startSend; split <;> (try split) <;> (try split) <;> rfl

@[simp] theorem changeRun_table (r : RunState) (c : RunCause) (s : State) : (changeRun r c s).table = s.table := by simp [changeRun]
@[simp] theorem changeRun_seq (r : RunState) (c : RunCause) (s : State) : (changeRun r c s).seq = s.seq := by simp [changeRun]
@[simp] theorem changeRun_sense (r : RunState) (c : RunCause) (s : State) : (changeRun r c s).sense = s.sense := by simp [changeRun]
@[simp] theorem changeRun_regs (r : RunState) (c : RunCause) (s : State) : (changeRun r c s).regs = s.regs := by simp [changeRun]
@[simp] theorem changeRun_lights (r : RunState) (c : RunCause) (s : State) : (changeRun r c s).lights = s.lights := by simp [changeRun]
@[simp] theorem changeRun_lock (r : RunState) (c : RunCause) (s : State) : (changeRun r c s).lock = s.lock := by simp [changeRun]
@[simp] theorem changeRun_stage (r : RunState) (c : RunCause) (s : State) : (changeRun r c s).stage = s.stage := by simp [changeRun]
@[simp] theorem changeRun_results (r : RunState) (c : RunCause) (s : State) : (changeRun r c s).results = s.results := by simp [changeRun]
@[simp] theorem changeRun_supply (r : RunState) (c : RunCause) (s : State) : (changeRun r c s).supply = s.supply := by simp [changeRun]
@[simp] theorem changeRun_pins (r : RunState) (c : RunCause) (s : State) : (changeRun r c s).pins = s.pins := by simp [changeRun]
@[simp] theorem changeRun_resetCause (r : RunState) (c : RunCause) (s : State) : (changeRun r c s).resetCause = s.resetCause := by simp [changeRun]
@[simp] theorem changeRun_pending (r : RunState) (c : RunCause) (s : State) : (changeRun r c s).pending = s.pending := by simp [changeRun]

end Sys2Proof.Machine
end

