-- ==== Sys2Proof/Laws/Ops.lean ====
section
/-!
SUPPORT. What the shared operations of Machine/Ops.lean can do, said once: reports, replies, the transmitter
and changes of run state.
-/

namespace Sys2Proof.Machine

/-! ### raise -/

/-- A report whose kind is masked off changes nothing (R165). -/
theorem raise_masked {k : ReportKind} {p : List Byte} {s : State}
    (h : s.link.mask.getLsbD (reportBit k) = false) : raise k p s = s := by
  simp [raise, h]

/-- A report whose kind is on joins a Report Queue that has room (R165). -/
theorem raise_queued {k : ReportKind} {p : List Byte} {s : State}
    (h : s.link.mask.getLsbD (reportBit k) = true) (hr : s.link.reports.length < 16) :
    raise k p s = { s with link.reports := s.link.reports ++ [⟨reportCode k, 0#8, p⟩] } := by
  simp [raise, h, Config.reportCapacity, hr]

/-- A report whose kind is on is discarded and counted by a full Report Queue (R165). -/
theorem raise_lost {k : ReportKind} {p : List Byte} {s : State}
    (h : s.link.mask.getLsbD (reportBit k) = true) (hr : 16 ≤ s.link.reports.length) :
    raise k p s = { s with link.reportsLost := saturate top16 s.link.reportsLost } := by
  simp [raise, h, Config.reportCapacity, Nat.not_lt.mpr hr]

/-- Raising a report changes the Link Port and nothing else. -/
theorem raise_eq (k : ReportKind) (p : List Byte) (s : State) :
    raise k p s = { s with link := (raise k p s).link } := by
  unfold raise; split <;> (try split) <;> rfl

/-- Raising a report changes the Report Queue and its counter and nothing else in the Link Port. -/
theorem raise_link_eq (k : ReportKind) (p : List Byte) (s : State) :
    (raise k p s).link =
      { s.link with reports := (raise k p s).link.reports, reportsLost := (raise k p s).link.reportsLost } := by
  unfold raise; split <;> (try split) <;> rfl

@[simp] theorem raise_commands (k : ReportKind) (p : List Byte) (s : State) :
    (raise k p s).link.commands = s.link.commands := by rw [raise_link_eq]
@[simp] theorem raise_executor (k : ReportKind) (p : List Byte) (s : State) :
    (raise k p s).link.executor = s.link.executor := by rw [raise_link_eq]
@[simp] theorem raise_replies (k : ReportKind) (p : List Byte) (s : State) :
    (raise k p s).link.replies = s.link.replies := by rw [raise_link_eq]
@[simp] theorem raise_sending (k : ReportKind) (p : List Byte) (s : State) :
    (raise k p s).link.sending = s.link.sending := by rw [raise_link_eq]
@[simp] theorem raise_mask (k : ReportKind) (p : List Byte) (s : State) :
    (raise k p s).link.mask = s.link.mask := by rw [raise_link_eq]

/-! ### changeRun -/

@[simp] theorem changeRun_run (r : RunState) (c : RunCause) (s : State) :
    (changeRun r c s).run = { s.run with state := r } := by
  simp [changeRun]

/-- A change of run state writes the run state and the Link Port's reports and nothing else. -/
theorem changeRun_eq (r : RunState) (c : RunCause) (s : State) :
    changeRun r c s = { s with run := { s.run with state := r }, link := (changeRun r c s).link } := by
  unfold changeRun; rw [raise_eq]

/-! ### startSend -/

/-- A busy transmitter goes on with its frame (R164). -/
theorem startSend_busy {s : State} {f : List Byte} (h : s.link.sending = some f) : startSend s = s := by
  simp [startSend, h]

/-- The idle transmitter takes the oldest reply first (R164). -/
theorem startSend_reply {s : State} {f : Frame} {rest : List Frame} (h : s.link.sending = none)
    (hr : s.link.replies = f :: rest) :
    startSend s = { s with link.replies := rest, link.sending := some (frameBytes f) } := by
  simp [startSend, h, hr]

/-- With no reply waiting, the idle transmitter takes the oldest report (R164). -/
theorem startSend_report {s : State} {f : Frame} {rest : List Frame} (h : s.link.sending = none)
    (hr : s.link.replies = []) (hp : s.link.reports = f :: rest) :
    startSend s = { s with link.reports := rest, link.sending := some (frameBytes f) } := by
  simp [startSend, h, hr, hp]

/-- With nothing waiting the transmitter changes nothing (R164). -/
theorem startSend_nothing {s : State} (hr : s.link.replies = []) (hp : s.link.reports = []) :
    startSend s = s := by
  unfold startSend; simp [hr, hp]; split <;> rfl

/-- A transmitter that is settled changes nothing. -/
theorem startSend_settled {s : State}
    (h : s.link.sending = none → s.link.replies = [] ∧ s.link.reports = []) : startSend s = s := by
  cases hs : s.link.sending with
  | some f => exact startSend_busy hs
  | none => exact startSend_nothing (h hs).1 (h hs).2

/-- After the transmitter's choice an idle transmitter has nothing to send. -/
theorem startSend_is_settled (s : State) :
    (startSend s).link.sending = none →
      (startSend s).link.replies = [] ∧ (startSend s).link.reports = [] := by
  unfold startSend
  split <;> (try split) <;> (try split) <;> simp_all

/-- The transmitter's choice writes the Link Port and nothing else. -/
theorem startSend_eq (s : State) : startSend s = { s with link := (startSend s).link } := by
  unfold startSend; split <;> (try split) <;> (try split) <;> rfl

@[simp] theorem startSend_commands (s : State) : (startSend s).link.commands = s.link.commands := by
  unfold startSend; split <;> (try split) <;> (try split) <;> rfl
@[simp] theorem startSend_executor (s : State) : (startSend s).link.executor = s.link.executor := by
  unfold startSend; split <;> (try split) <;> (try split) <;> rfl

/-- The transmitter's choice never lengthens the Reply Queue. -/
theorem startSend_replies_le (s : State) : (startSend s).link.replies.length ≤ s.link.replies.length := by
  unfold startSend; split <;> (try split) <;> (try split) <;> simp_all

/-! ### Integration -/

/-- What an integrator holds after charge flowed in: the sum, or full scale (R28). -/
@[simp] theorem integrated_get (charges : Quad Nat) (f : SenseFrontEnd) (i : Fin 4) :
    (integrated charges f).integrators.get i = min 20000000 (f.integrators.get i + charges.get i) := by
  simp [integrated, Config.fullScaleCharge]

@[simp] theorem integrated_integrating (charges : Quad Nat) (f : SenseFrontEnd) :
    (integrated charges f).integrating = f.integrating := rfl
@[simp] theorem integrated_readings (charges : Quad Nat) (f : SenseFrontEnd) :
    (integrated charges f).readings = f.readings := rfl
@[simp] theorem integrated_baselines (charges : Quad Nat) (f : SenseFrontEnd) :
    (integrated charges f).baselines = f.baselines := rfl

/-- Up to full scale a charge counts to at most 65535 (R28). -/
theorem countOf_le {charge : Nat} (h : charge ≤ 20000000) : countOf charge ≤ 65535 := by
  simp only [countOf, Config.topCount, Config.fullScaleCharge]
  omega

/-- A passing microsecond changes what the integrators hold and nothing else of the Sense Front End. -/
theorem senseTick_eq (p : Quad Nat) (f : SenseFrontEnd) :
    senseTick p f = { f with integrators := (senseTick p f).integrators } := by
  unfold senseTick; split <;> rfl

theorem senseTick_get (p : Quad Nat) (f : SenseFrontEnd) (i : Fin 4) :
    (senseTick p f).integrators.get i =
      if f.integrating = true then min 20000000 (f.integrators.get i + p.get i) else f.integrators.get i := by
  unfold senseTick; split <;> simp

/-- Flash end at the Sense Front End: the integrators take the charge not counted yet and stop, and their counts are
the last readings (R28). -/
theorem latchReadings_sense (charges : Quad Nat) (s : State) :
    (latchReadings charges s).sense =
      { integrators := (integrated charges s.sense).integrators
        integrating := false
        readings := (integrated charges s.sense).integrators.map countOf
        baselines := s.sense.baselines } := rfl

end Sys2Proof.Machine
end

