-- ==== Sys2Proof/Laws/Untouched.lean ====
section
/-!
SUPPORT. What no block's own effect touches: the receiver, the queues of commands and replies, the frame in
transmission, the reset cause and the commands that wait. One lemma for each handler; a handler only ever
raises reports.
-/

namespace Sys2Proof.Machine

/-- From `s` to `t` nothing of the Link Port changed but reports and mask, a held executor stays held, the part
is in reset exactly as before, and the waiting commands are the same. -/
structure Untouched (s t : State) : Prop where
  commands : t.link.commands = s.link.commands
  replies : t.link.replies = s.link.replies
  sending : t.link.sending = s.link.sending
  receiver : t.link.receiver = s.link.receiver
  waitIdle : t.link.waitIdle = s.link.waitIdle
  gapTimer : t.link.gapTimer = s.link.gapTimer
  linkErrors : t.link.linkErrors = s.link.linkErrors
  framesDropped : t.link.framesDropped = s.link.framesDropped
  resetCause : t.resetCause = s.resetCause
  pending : t.pending = s.pending
  executor : s.link.executor = .holding → t.link.executor = .holding
  reports : s.link.reports.length ≤ 16 → t.link.reports.length ≤ 16
  reportsLost : s.link.reportsLost ≤ 65535 → t.link.reportsLost ≤ 65535

namespace Untouched

theorem refl (s : State) : Untouched s s := ⟨rfl, rfl, rfl, rfl, rfl, rfl, rfl, rfl, rfl, rfl, id, id, id⟩

theorem trans {s t u : State} (h : Untouched s t) (g : Untouched t u) : Untouched s u :=
  ⟨g.commands.trans h.commands, g.replies.trans h.replies, g.sending.trans h.sending,
   g.receiver.trans h.receiver, g.waitIdle.trans h.waitIdle, g.gapTimer.trans h.gapTimer,
   g.linkErrors.trans h.linkErrors, g.framesDropped.trans h.framesDropped,
   g.resetCause.trans h.resetCause, g.pending.trans h.pending,
   fun x => g.executor (h.executor x), fun x => g.reports (h.reports x), fun x => g.reportsLost (h.reportsLost x)⟩

/-- An update that leaves the Link Port, the reset cause and the waiting commands alone. -/
theorem of_link {s t : State} (h : t.link = s.link) (hr : t.resetCause = s.resetCause)
    (hp : t.pending = s.pending) : Untouched s t := by
  refine ⟨?_, ?_, ?_, ?_, ?_, ?_, ?_, ?_, hr, hp, ?_, ?_, ?_⟩ <;> rw [h] <;> exact id

/-- The same with such an update behind it. -/
theorem upd {s t u : State} (g : Untouched s t) (h : u.link = t.link) (hr : u.resetCause = t.resetCause)
    (hp : u.pending = t.pending) : Untouched s u :=
  g.trans (of_link h hr hp)

theorem cond {s a b : State} {c : Prop} [Decidable c] (ha : Untouched s a) (hb : Untouched s b) :
    Untouched s (if c then a else b) := by
  split <;> assumption

end Untouched


theorem raise_untouched (k : ReportKind) (p : List Byte) (s : State) : Untouched s (raise k p s) := by
  unfold raise
  split
  · split
    · next h =>
      refine ⟨rfl, rfl, rfl, rfl, rfl, rfl, rfl, rfl, rfl, rfl, id, fun _ => ?_, id⟩
      simp [Config.reportCapacity] at h ⊢; omega
    · exact ⟨rfl, rfl, rfl, rfl, rfl, rfl, rfl, rfl, rfl, rfl, id, id, fun _ => Nat.min_le_right _ _⟩
  · exact Untouched.refl s

theorem changeRun_untouched (r : RunState) (c : RunCause) (s : State) : Untouched s (changeRun r c s) := by
  unfold changeRun
  refine .trans ?_ (raise_untouched _ _ _)
  exact .of_link rfl rfl rfl

/-! ### The Run Controller -/

theorem startEvent_untouched (s : State) : Untouched s (startEvent s) := by
  unfold startEvent
  refine .trans ?_ (changeRun_untouched _ _ _)
  exact .of_link rfl rfl rfl

theorem gateCheck_untouched (s : State) : Untouched s (gateCheck s) := by
  unfold gateCheck
  exact .cond (startEvent_untouched s) (.refl s)

theorem armRun_untouched (s : State) : Untouched s (armRun s) := by
  unfold armRun
  exact .trans (changeRun_untouched _ _ _) (gateCheck_untouched _)

theorem runEnd_untouched (s : State) : Untouched s (runEnd s) := by
  have h : Untouched s (changeRun (runDestination s.run.stopKind s.run.setup.repeats) .runEnd (closeRun s)) := by
    refine .trans ?_ (changeRun_untouched _ _ _)
    exact .of_link rfl rfl rfl
  exact .cond (h.trans (gateCheck_untouched _)) h

theorem runEndCheck_untouched (s : State) : Untouched s (runEndCheck s) := by
  unfold runEndCheck
  exact .cond (runEnd_untouched s) (.refl s)

theorem goIdle_untouched (c : RunCause) (s : State) : Untouched s (goIdle c s) := by
  unfold goIdle
  exact .cond (.refl s) (changeRun_untouched _ _ _)

/-! ### Results -/

theorem addRecord_untouched (r : ResultRecord) (s : State) : Untouched s (addRecord r s) := by
  have h : Untouched s { s with results.records := s.results.records ++ [r] } := .of_link rfl rfl rfl
  exact .cond (h.trans (raise_untouched _ _ _)) h

theorem offerRecord_untouched (r : ResultRecord) (s : State) : Untouched s (offerRecord r s) := by
  unfold offerRecord
  exact .cond (addRecord_untouched r s) (.of_link rfl rfl rfl)

/-! ### Staging -/

theorem putShot_untouched {i : Nat} {e : ShotEntry} {s t : State} (h : putShot i e s = some t) :
    Untouched s t := by
  unfold putShot at h
  split at h
  · cases h; exact .of_link rfl rfl rfl
  · split at h
    · cases h; exact .of_link rfl rfl rfl
    · cases h

theorem putSeqStart_untouched {i : Nat} {s t : State} (h : putSeqStart i s = some t) : Untouched s t := by
  unfold putSeqStart at h
  split at h
  · cases h; exact .of_link rfl rfl rfl
  · cases h

theorem putRegMode_untouched (l : Light) (m : RegMode) (s : State) : Untouched s (putRegMode l m s) := by
  unfold putRegMode
  exact .cond (.of_link rfl rfl rfl) (.of_link rfl rfl rfl)

theorem putRegForce_untouched {l : Light} {d c : Nat} {s t : State} (h : putRegForce l d c s = some t) :
    Untouched s t := by
  unfold putRegForce at h
  split at h
  · cases h; exact .of_link rfl rfl rfl
  · cases h

/-- An applied record is one of the seven effects (R136). -/
theorem applyRecord_cases {r : StageRecord} {s t : State} (h : applyRecord r s = some t) :
    (∃ i e, parseShotPut r.payload = .ok (i, e) ∧ putShot i e s = some t) ∨
    (∃ i, putSeqStart i s = some t) ∨
    (∃ l m, t = putRegMode l m s) ∨
    (∃ l d c, putRegForce l d c s = some t) ∨
    (∃ l b, parseRegBands r.payload = .ok (l, b) ∧ t = putRegBands l b s) ∨
    (∃ l m, parseRegLimits r.payload = .ok (l, m) ∧ t = putRegLimits l m s) ∨
    (∃ l a b, parseLightDuty r.payload = .ok (l, a, b) ∧ t = putLightDuty l a b s) := by
  unfold applyRecord at h
  split at h
  all_goals try (split at h)
  all_goals first
    | (cases h; done)
    | (next hp => exact Or.inl ⟨_, _, hp, h⟩)
    | exact Or.inr (Or.inl ⟨_, h⟩)
    | exact Or.inr (Or.inr (Or.inr (Or.inl ⟨_, _, _, h⟩)))
    | (cases h; exact Or.inr (Or.inr (Or.inl ⟨_, _, rfl⟩)))
    | (next hp => cases h; exact Or.inr (Or.inr (Or.inr (Or.inr (Or.inl ⟨_, _, hp, rfl⟩)))))
    | (next hp => cases h; exact Or.inr (Or.inr (Or.inr (Or.inr (Or.inr (Or.inl ⟨_, _, hp, rfl⟩))))))
    | (next hp => cases h; exact Or.inr (Or.inr (Or.inr (Or.inr (Or.inr (Or.inr ⟨_, _, _, hp, rfl⟩))))))

theorem applyRecord_untouched {r : StageRecord} {s t : State} (h : applyRecord r s = some t) :
    Untouched s t := by
  rcases applyRecord_cases h with ⟨_, _, _, h⟩ | ⟨_, h⟩ | ⟨_, _, h⟩ | ⟨_, _, _, h⟩ | ⟨_, _, _, h⟩ | ⟨_, _, _, h⟩ |
    ⟨_, _, _, _, h⟩
  · exact putShot_untouched h
  · exact putSeqStart_untouched h
  · exact h ▸ putRegMode_untouched _ _ _
  · exact putRegForce_untouched h
  all_goals (subst h; exact .of_link rfl rfl rfl)

/-- What every record keeps, an application of a list of records keeps. -/
theorem applyRecords_keep {P : State → Prop} (hr : ∀ r s t, applyRecord r s = some t → P s → P t) :
    ∀ (rs : List StageRecord) (a : Application), P a.state → P (rs.foldl applyNext a).state
  | [], _, h => h
  | r :: rs, a, h => by
    apply applyRecords_keep hr rs
    unfold applyNext
    split
    · next s' hs => exact hr r a.state s' hs h
    · exact h

theorem applyRecords_untouched (rs : List StageRecord) (s : State) :
    Untouched s (applyRecords rs s).state :=
  applyRecords_keep (P := fun t => Untouched s t) (fun _ _ _ h hs => hs.trans (applyRecord_untouched h)) rs
    ⟨s, 0, 0⟩ (.refl s)

theorem applyBank_untouched (b : Fin 4) (s : State) : Untouched s (applyBank b s).state := by
  unfold applyBank
  exact .trans (applyRecords_untouched _ s) (raise_untouched _ _ _)

theorem alternationStep_untouched (s : State) : Untouched s (alternationStep s) := by
  unfold alternationStep
  split
  · exact .refl s
  · next r _ =>
    have h : Untouched s (if r.remaining = 0 then (applyBank (dueBank r) s).state else s) :=
      .cond (applyBank_untouched _ s) (.refl s)
    exact h.upd rfl rfl rfl

theorem applyPending_untouched (b : Fin 4) (s : State) : Untouched s (applyPending b s) := by
  unfold applyPending
  exact .cond ((applyBank_untouched b s).upd rfl rfl rfl) (.refl s)

theorem applyDueBanks_untouched (s : State) : Untouched s (applyDueBanks s) := by
  unfold applyDueBanks
  refine .trans ?_ (applyPending_untouched 3 _)
  refine .trans ?_ (applyPending_untouched 2 _)
  refine .trans ?_ (applyPending_untouched 1 _)
  refine .trans ?_ (applyPending_untouched 0 _)
  exact alternationStep_untouched s

/-! ### The Shot Sequencer -/

theorem flashStart_untouched (s : State) : Untouched s (flashStart s) := by
  unfold flashStart
  split
  · exact .cond (.of_link rfl rfl rfl) (.refl s)
  · exact .refl s

theorem startShot_untouched (i : Nat) (test : Bool) (s : State) : Untouched s (startShot i test s) := by
  unfold startShot
  split
  · exact .refl s
  · next e _ =>
    have h : Untouched s (enterLead i e test s) := .of_link rfl rfl rfl
    exact .cond (h.trans (flashStart_untouched _)) h

theorem cycleBegin_untouched (s : State) : Untouched s (cycleBegin s) := by
  unfold cycleBegin
  refine .trans ?_ (startShot_untouched _ _ _)
  have h : Untouched s { s with seq.cycleNumber := wrap32 s.seq.cycleNumber, seq.position := 0 } :=
    .of_link rfl rfl rfl
  exact (h.trans (applyDueBanks_untouched _)).upd rfl rfl rfl

theorem openCycle_untouched (s : State) : Untouched s (openCycle s) := by
  have h : Untouched s (openRecord s) := .of_link rfl rfl rfl
  unfold openCycle
  refine .cond (.cond ?_ ?_) ?_
  · exact h.upd rfl rfl rfl
  · refine .trans ?_ (cycleBegin_untouched _)
    exact h.upd rfl rfl rfl
  · exact h.trans (cycleBegin_untouched _)

theorem closeCycle_untouched (s : State) : Untouched s (closeCycle s) := by
  unfold closeCycle
  refine .trans ?_ (runEndCheck_untouched _)
  have h : Untouched s (updateRegs closeRegulator s) := .of_link rfl rfl rfl
  exact (h.trans (raise_untouched _ _ _)).upd rfl rfl rfl

theorem nextShot_untouched (s : State) : Untouched s (nextShot s) := by
  unfold nextShot
  refine .trans ?_ (startShot_untouched _ _ _)
  exact .of_link rfl rfl rfl

theorem handOff_untouched (sh : Shot) (s : State) : Untouched s (handOff sh s) := by
  unfold handOff
  split
  · exact .refl s
  · next l _ =>
    have h : Untouched s (if givesFigure sh l then
        updateReg l (takeFigure s.sense.readings s.sense.baselines) s else s) :=
      .cond (.of_link rfl rfl rfl) (.refl s)
    exact .cond (h.upd rfl rfl rfl) h

theorem handOffCycle_untouched (sh : Shot) (s : State) : Untouched s (handOffCycle sh s) := by
  unfold handOffCycle
  exact .cond (.refl s) (handOff_untouched sh s)

theorem recordShot_untouched (sh : Shot) (m : LineSet) (s : State) : Untouched s (recordShot sh m s) := by
  unfold recordShot
  exact .cond (.refl s) (offerRecord_untouched _ s)

theorem tailEnd_untouched (s : State) : Untouched s (tailEnd s) := by
  unfold tailEnd
  split
  · exact .cond (.of_link rfl rfl rfl) (.refl s)
  · exact .refl s

theorem takeBaselines_untouched (sh : Shot) (s : State) : Untouched s (takeBaselines sh s) := by
  unfold takeBaselines
  exact .cond (.of_link rfl rfl rfl) (.refl s)

theorem noteClipped_untouched (sh : Shot) (s : State) : Untouched s (noteClipped sh s) := by
  unfold noteClipped
  exact .cond (.of_link rfl rfl rfl) (.refl s)

theorem latchReadings_untouched (c : Quad Nat) (s : State) : Untouched s (latchReadings c s) :=
  .of_link rfl rfl rfl

theorem enterPhase_untouched (sh : Shot) (ph : Phase) (n : Nat) (s : State) :
    Untouched s (enterPhase sh ph n s) :=
  .of_link rfl rfl rfl

theorem finishFlash_untouched (c : Quad Nat) (m : LineSet) (sh : Shot) (s : State) :
    Untouched s (finishFlash c m sh s) := by
  have h : Untouched s (enterPhase sh .tail sh.entry.tail (noteClipped sh (recordShot sh m
      (handOffCycle sh (takeBaselines sh (latchReadings c s)))))) := by
    refine .trans ?_ (enterPhase_untouched _ _ _ _)
    refine .trans ?_ (noteClipped_untouched _ _)
    refine .trans ?_ (recordShot_untouched _ _ _)
    refine .trans ?_ (handOffCycle_untouched _ _)
    refine .trans ?_ (takeBaselines_untouched _ _)
    exact latchReadings_untouched _ _
  exact .cond (h.trans (tailEnd_untouched _)) h

theorem flashEnd_untouched (c : Quad Nat) (m : LineSet) (s : State) : Untouched s (flashEnd c m s) := by
  unfold flashEnd
  split
  · exact .cond (finishFlash_untouched _ _ _ s) (.refl s)
  · exact .refl s

theorem suspendCycle_untouched (s : State) : Untouched s (suspendCycle s) := by
  unfold suspendCycle
  refine .trans ?_ (changeRun_untouched _ _ _)
  exact .of_link rfl rfl rfl

theorem finishCycleShot_untouched (sh : Shot) (s : State) : Untouched s (finishCycleShot sh s) := by
  have h : Untouched s { s with seq.shotsRun := s.seq.shotsRun + 1 } := .of_link rfl rfl rfl
  unfold finishCycleShot
  exact .cond (h.trans (suspendCycle_untouched _))
    (.cond (h.trans (closeCycle_untouched _)) (h.trans (nextShot_untouched _)))

theorem gapEnd_untouched (s : State) : Untouched s (gapEnd s) := by
  unfold gapEnd
  split
  · exact .cond (.cond (.of_link rfl rfl rfl) (finishCycleShot_untouched _ _)) (.refl s)
  · exact .refl s

theorem resume_untouched (s : State) : Untouched s (resume s) := by
  have h : Untouched s (changeRun .running .resume s) := changeRun_untouched _ _ _
  exact .cond (h.trans (closeCycle_untouched _)) (h.trans (nextShot_untouched _))

theorem discardCycle_untouched (n k : Nat) (s : State) : Untouched s (discardCycle n k s) := by
  have h : Untouched s (updateRegs clearAccumulator { s with seq.flags.aborted := true }) :=
    .of_link rfl rfl rfl
  exact h.trans (raise_untouched _ _ _)

theorem stopSequencer_untouched (s : State) : Untouched s (stopSequencer s) := .of_link rfl rfl rfl

theorem abortSequencer_untouched (s : State) : Untouched s (abortSequencer s) := by
  unfold abortSequencer
  split
  · exact .trans (stopSequencer_untouched s) (discardCycle_untouched _ _ _)
  · exact .trans (stopSequencer_untouched s) (discardCycle_untouched _ _ _)
  · exact .trans (stopSequencer_untouched s) (discardCycle_untouched _ _ _)
  · exact stopSequencer_untouched s
  · exact stopSequencer_untouched s

/-! ### Supply, run control, line lock, faults -/

theorem changeSupply_untouched (m : SupplyMode) (c : SupplyCause) (s : State) :
    Untouched s (changeSupply m c s) := by
  unfold changeSupply
  refine .trans ?_ (raise_untouched _ _ _)
  exact .of_link rfl rfl rfl

theorem wakeUp_untouched (c : SupplyCause) (s : State) : Untouched s (wakeUp c s) := by
  unfold wakeUp
  refine .trans ?_ (changeSupply_untouched _ _ _)
  exact .of_link rfl rfl rfl

theorem enterStandby_untouched (s : State) : Untouched s (enterStandby s) := by
  unfold enterStandby
  refine .trans ?_ (changeSupply_untouched _ _ _)
  exact .of_link rfl rfl rfl

theorem settleExpiry_untouched (s : State) : Untouched s (settleExpiry s) := by
  unfold settleExpiry
  split
  · refine .trans ?_ (changeSupply_untouched _ _ _)
    exact .of_link rfl rfl rfl
  · exact .refl s

theorem noteStop_untouched (k : StopKind) (s : State) : Untouched s (noteStop k s) := .of_link rfl rfl rfl

theorem stopEvent_untouched (k : StopKind) (s : State) : Untouched s (stopEvent k s) := by
  have h := noteStop_untouched k s
  unfold stopEvent
  split
  · exact .refl s
  · exact .refl s
  · exact h.trans (runEnd_untouched _)
  · refine .trans ?_ (runEndCheck_untouched _)
    exact h.trans (changeRun_untouched _ _ _)
  · exact .refl s
  · refine .trans ?_ (runEndCheck_untouched _)
    refine .trans ?_ (changeRun_untouched _ _ _)
    refine .trans ?_ (closeCycle_untouched _)
    exact h.upd rfl rfl rfl

theorem acceptCycle_untouched (s : State) : Untouched s (acceptCycle s) := by
  unfold acceptCycle
  refine .trans ?_ (openCycle_untouched _)
  exact .of_link rfl rfl rfl

theorem acceptRunning_untouched (s : State) : Untouched s (acceptRunning s) := by
  have h := acceptCycle_untouched s
  exact .cond (h.trans (stopEvent_untouched _ _)) h

theorem acceptFinishing_untouched (s : State) : Untouched s (acceptFinishing s) := by
  unfold acceptFinishing
  refine .trans ?_ (acceptCycle_untouched _)
  exact .of_link rfl rfl rfl

theorem countDown_untouched (s : State) : Untouched s (countDown s) := by
  have h : Untouched s { s with run.delayLeft := s.run.delayLeft - 1 } := .of_link rfl rfl rfl
  exact .cond (h.trans (changeRun_untouched _ _ _)) h

theorem countMissed_untouched (s : State) : Untouched s (countMissed s) := .of_link rfl rfl rfl

theorem cycleSource_untouched (s : State) : Untouched s (cycleSource s).state := by
  unfold cycleSource
  split
  · exact .refl s
  · exact .refl s
  · exact countDown_untouched s
  · split
    · exact acceptRunning_untouched s
    · exact countMissed_untouched s
  · split
    · exact .refl s
    · split
      · exact acceptFinishing_untouched s
      · exact countMissed_untouched s
  · exact countMissed_untouched s

theorem pacerExpiry_untouched (s : State) : Untouched s (pacerExpiry s) := by
  unfold pacerExpiry
  split
  · refine .trans ?_ (cycleSource_untouched _)
    exact .of_link rfl rfl rfl
  · exact .refl s

theorem encoderEdge_untouched (s : State) : Untouched s (encoderEdge s) := by
  unfold encoderEdge
  refine .cond (.cond ?_ (.of_link rfl rfl rfl)) (.refl s)
  refine .trans ?_ (cycleSource_untouched _)
  exact .of_link rfl rfl rfl

theorem encoderZero_untouched (s : State) : Untouched s (encoderZero s) := by
  unfold encoderZero
  exact .cond (encoderEdge_untouched s) (.refl s)

theorem trigCycle_untouched (s : State) : Untouched s (trigCycle s) := by
  unfold trigCycle
  exact .cond (cycleSource_untouched s) (.refl s)

theorem trigStop_untouched (s : State) : Untouched s (trigStop s) := by
  unfold trigStop
  exact .cond (stopEvent_untouched _ s) (.refl s)

theorem trigArmed_untouched (s : State) : Untouched s (trigArmed s) := by
  unfold trigArmed
  split
  · exact .refl s
  · exact startEvent_untouched s
  · exact startEvent_untouched s

theorem trigOperate_untouched (s : State) : Untouched s (trigOperate s) := by
  have h : Untouched s (trigStop (trigCycle s)) := .trans (trigCycle_untouched s) (trigStop_untouched _)
  unfold trigOperate
  split
  · exact .refl s
  · exact trigArmed_untouched s
  · exact h
  · exact h
  · exact trigCycle_untouched s
  · exact .cond (resume_untouched s) h

theorem setTrig_untouched (a : Bool) (s : State) : Untouched s (setTrig a s) := .of_link rfl rfl rfl

theorem trigActiveEdge_untouched (s : State) : Untouched s (trigActiveEdge s) := by
  have h := setTrig_untouched true s
  unfold trigActiveEdge
  simp only
  split
  · exact .cond (h.trans (wakeUp_untouched _ _)) h
  · exact h
  · exact h.trans (trigOperate_untouched _)

theorem gateStop_untouched (s : State) : Untouched s (gateStop s) := by
  unfold gateStop
  split
  · exact stopEvent_untouched _ _
  · exact stopEvent_untouched _ _
  all_goals exact .refl _

theorem trigInactiveEdge_untouched (s : State) : Untouched s (trigInactiveEdge s) := by
  have h := setTrig_untouched false s
  exact .cond (h.trans (gateStop_untouched _)) h

theorem startByState_untouched {s t : State} (h : startByState s = some t) : Untouched s t := by
  unfold startByState at h
  split at h
  all_goals try (split at h)
  all_goals first
    | (cases h; done)
    | (cases h; exact startEvent_untouched s)
    | (cases h; exact armRun_untouched s)
    | (cases h; exact .refl _)
    | (cases h; exact resume_untouched s)

theorem haltRun_untouched (s : State) : Untouched s (haltRun s) := by
  unfold haltRun
  split
  · exact .refl s
  · exact changeRun_untouched _ _ _
  · exact stopEvent_untouched _ _
  · exact stopEvent_untouched _ _
  · exact stopEvent_untouched _ _
  · exact .refl s

theorem stopRun_untouched (s : State) : Untouched s (stopRun s) := .of_link rfl rfl rfl

theorem abortRun_untouched (s : State) : Untouched s (abortRun s) := by
  unfold abortRun
  refine .trans ?_ (goIdle_untouched _ _)
  exact .trans (abortSequencer_untouched s) (stopRun_untouched _)

theorem restartWatch_untouched (s : State) : Untouched s (restartWatch s) := by
  have h : Untouched s { s with lock.watch := some (s.lock.setup.timeout * 1000) } := .of_link rfl rfl rfl
  unfold restartWatch
  refine .cond h ?_
  unfold changeSync
  refine .trans ?_ (raise_untouched _ _ _)
  exact h.upd rfl rfl rfl

theorem releaseByEdge_untouched (s : State) : Untouched s (releaseByEdge s) := by
  unfold releaseByEdge
  split
  · refine .cond (.of_link rfl rfl rfl) (.trans ?_ (cycleBegin_untouched _))
    exact .of_link rfl rfl rfl
  · exact .refl s
  · exact .refl s

theorem syncEdge_untouched (d : Polarity) (s : State) : Untouched s (syncEdge d s) := by
  unfold syncEdge
  exact .cond (.trans (restartWatch_untouched s) (releaseByEdge_untouched _)) (.refl s)

theorem releaseUnlocked_untouched (s : State) : Untouched s (releaseUnlocked s) := by
  unfold releaseUnlocked
  split
  · exact .refl s
  · refine .trans ?_ (cycleBegin_untouched _)
    exact .of_link rfl rfl rfl
  · refine .trans ?_ (cycleBegin_untouched _)
    exact .of_link rfl rfl rfl

theorem watchExpiry_untouched (s : State) : Untouched s (watchExpiry s) := by
  unfold watchExpiry
  split
  · refine .trans ?_ (releaseUnlocked_untouched _)
    unfold changeSync
    refine .trans ?_ (raise_untouched _ _ _)
    exact .of_link rfl rfl rfl
  · exact .refl s

theorem phaseDelayEnd_untouched (s : State) : Untouched s (phaseDelayEnd s) := by
  unfold phaseDelayEnd
  split
  · refine .trans ?_ (cycleBegin_untouched _)
    exact .of_link rfl rfl rfl
  · exact .refl s
  · exact .refl s

theorem latchFault_untouched (l : Light) (s : State) : Untouched s (latchFault l s) := by
  have h1 : Untouched s (setFaulted l s) := .of_link rfl rfl rfl
  have h2 : Untouched s (cutIfOn l (setFaulted l s)) := by
    unfold cutIfOn
    exact .cond (h1.upd rfl rfl rfl) h1
  have h3 : Untouched s (raise .fault (faultPayload l (s.lights.channels.get l).on (cutIfOn l
      (setFaulted l s))) (cutIfOn l (setFaulted l s))) := h2.trans (raise_untouched _ _ _)
  exact .cond (h3.trans (stopEvent_untouched _ _)) h3

theorem faultArrival_untouched (l : Light) (s : State) : Untouched s (faultArrival l s) := by
  have h : Untouched s (setFaultLine l true s) := .of_link rfl rfl rfl
  exact .cond h (h.trans (latchFault_untouched _ _))

theorem dutyTimerExpiry_untouched (s : State) : Untouched s (dutyTimerExpiry s) := by
  unfold dutyTimerExpiry
  split
  · exact .refl s
  · exact .of_link rfl rfl rfl

theorem runReset_untouched (s : State) : Untouched s (runReset s) := by
  have h : Untouched s (stopRun (stopSequencer s)) := .of_link rfl rfl rfl
  have g := h.trans (goIdle_untouched .reset _)
  exact g.upd rfl rfl rfl

end Sys2Proof.Machine
end

