-- ==== Sys2Proof/Laws/Taking.lean ====
section
/-!
SUPPORT. Taking a command: what execution leaves untouched, one lemma for each command and one for all; the
service of the queues; and the event in which a host command is taken and answered.
-/

namespace Sys2Proof.Machine

theorem refuse_untouched (st : Status) (s : State) : Untouched s (refuse st s).state := .refl s

theorem takeShotGet_untouched (p : List Byte) (s : State) : Untouched s (takeShotGet p s).state := by
  unfold takeShotGet
  split
  · exact .refl s
  · split <;> exact .refl s

theorem takeRegGet_untouched (p : List Byte) (s : State) : Untouched s (takeRegGet p s).state := by
  unfold takeRegGet
  split
  · exact .refl s
  · exact .of_link rfl rfl rfl

theorem takeLightGet_untouched (p : List Byte) (s : State) : Untouched s (takeLightGet p s).state := by
  unfold takeLightGet
  split
  · exact .refl s
  · exact .of_link rfl rfl rfl

theorem takeStageGet_untouched (p : List Byte) (s : State) : Untouched s (takeStageGet p s).state := by
  unfold takeStageGet
  split
  · exact .refl s
  · exact .of_link rfl rfl rfl

theorem takeIdentify_untouched (p : List Byte) (s : State) : Untouched s (takeIdentify p s).state := by
  unfold takeIdentify
  split
  · exact .refl s
  · exact .of_link rfl rfl rfl

theorem takeStatus_untouched (p : List Byte) (s : State) : Untouched s (takeStatus p s).state := by
  unfold takeStatus
  split
  · exact .refl s
  · exact .of_link rfl rfl rfl

theorem takeSenseGet_untouched (p : List Byte) (s : State) : Untouched s (takeSenseGet p s).state := by
  unfold takeSenseGet
  split
  · exact .refl s
  · exact .of_link rfl rfl rfl

theorem takeSenseSet_untouched (p : List Byte) (s : State) : Untouched s (takeSenseSet p s).state := by
  unfold takeSenseSet
  split
  · exact .refl s
  · exact .of_link rfl rfl rfl

theorem takeRegBands_untouched (p : List Byte) (s : State) : Untouched s (takeRegBands p s).state := by
  unfold takeRegBands
  split
  · exact .refl s
  · exact .of_link rfl rfl rfl

theorem takeRegLimits_untouched (p : List Byte) (s : State) : Untouched s (takeRegLimits p s).state := by
  unfold takeRegLimits
  split
  · exact .refl s
  · exact .of_link rfl rfl rfl

theorem takeLightDuty_untouched (p : List Byte) (s : State) : Untouched s (takeLightDuty p s).state := by
  unfold takeLightDuty
  split
  · exact .refl s
  · exact .of_link rfl rfl rfl

theorem takeResultRead_untouched (p : List Byte) (s : State) : Untouched s (takeResultRead p s).state := by
  unfold takeResultRead
  split
  · exact .refl s
  · exact .of_link rfl rfl rfl

theorem takeResultFlush_untouched (p : List Byte) (s : State) : Untouched s (takeResultFlush p s).state := by
  unfold takeResultFlush
  split
  · exact .refl s
  · exact .of_link rfl rfl rfl

theorem takeResultThreshold_untouched (p : List Byte) (s : State) : Untouched s (takeResultThreshold p s).state := by
  unfold takeResultThreshold
  split
  · exact .refl s
  · exact .of_link rfl rfl rfl

theorem takeSupplySetup_untouched (p : List Byte) (s : State) : Untouched s (takeSupplySetup p s).state := by
  unfold takeSupplySetup
  split
  · exact .refl s
  · exact .of_link rfl rfl rfl

theorem takeReportMask_untouched (p : List Byte) (s : State) : Untouched s (takeReportMask p s).state := by
  unfold takeReportMask
  split
  · exact .refl s
  · exact ⟨rfl, rfl, rfl, rfl, rfl, rfl, rfl, rfl, rfl, rfl, id, id, id⟩

theorem takeReset_untouched (p : List Byte) (s : State) : Untouched s (takeReset p s).state := by
  unfold takeReset
  split
  · exact .refl s
  · exact runReset_untouched s
  · exact ⟨rfl, rfl, rfl, rfl, rfl, rfl, rfl, rfl, rfl, rfl, fun _ => rfl, id, id⟩

theorem takeShotPut_untouched (p : List Byte) (s : State) : Untouched s (takeShotPut p s).state := by
  unfold takeShotPut
  split
  · exact .refl s
  · split
    · split
      · exact .refl s
      · next h => exact putShot_untouched h
    · exact .refl s

theorem takeSeqSelect_untouched (p : List Byte) (s : State) : Untouched s (takeSeqSelect p s).state := by
  unfold takeSeqSelect
  split
  · exact .refl s
  · split
    · split
      · exact .refl s
      · next h => exact putSeqStart_untouched h
    · exact .refl s

theorem takeTableClear_untouched (p : List Byte) (s : State) : Untouched s (takeTableClear p s).state := by
  unfold takeTableClear
  split
  · exact .refl s
  · split
    · exact .of_link rfl rfl rfl
    · exact .refl s

theorem takeRunSetup_untouched (p : List Byte) (s : State) : Untouched s (takeRunSetup p s).state := by
  unfold takeRunSetup
  split
  · exact .refl s
  · split
    · exact .of_link rfl rfl rfl
    · exact .refl s

theorem takeStageLayout_untouched (p : List Byte) (s : State) : Untouched s (takeStageLayout p s).state := by
  unfold takeStageLayout
  split
  · exact .refl s
  · split
    · exact .of_link rfl rfl rfl
    · exact .refl s

theorem takeStageOpen_untouched (p : List Byte) (s : State) : Untouched s (takeStageOpen p s).state := by
  unfold takeStageOpen
  split
  · exact .refl s
  · simp only
    split
    · exact .of_link rfl rfl rfl
    · exact .refl s

theorem takeFire_untouched (p : List Byte) (s : State) : Untouched s (takeFire p s).state := by
  unfold takeFire
  split
  · exact .refl s
  · split
    · exact .refl s
    · split
      · split
        · refine .trans ?_ (startShot_untouched _ _ _)
          exact .of_link rfl rfl rfl
        · exact .refl s
      · exact .refl s

theorem takeRegMode_untouched (p : List Byte) (s : State) : Untouched s (takeRegMode p s).state := by
  unfold takeRegMode
  split
  · exact .refl s
  · exact putRegMode_untouched _ _ s

theorem takeRegForce_untouched (p : List Byte) (s : State) : Untouched s (takeRegForce p s).state := by
  unfold takeRegForce
  split
  · exact .refl s
  · split
    · exact .refl s
    · next h => exact putRegForce_untouched h

theorem takeFaultClear_untouched (p : List Byte) (s : State) : Untouched s (takeFaultClear p s).state := by
  unfold takeFaultClear
  split
  · exact .refl s
  · split
    · exact .refl s
    · show Untouched s (clearFault _ s)
      unfold clearFault
      exact .cond (.of_link rfl rfl rfl) (.refl s)

theorem takeStageClose_untouched (p : List Byte) (s : State) : Untouched s (takeStageClose p s).state := by
  unfold takeStageClose
  split
  · exact .refl s
  · split
    · exact .refl s
    · exact .of_link rfl rfl rfl

theorem takeStageLaunch_untouched (p : List Byte) (s : State) : Untouched s (takeStageLaunch p s).state := by
  unfold takeStageLaunch
  split
  · exact .refl s
  · simp only
    split
    · split
      · exact applyBank_untouched _ s
      · exact .of_link rfl rfl rfl
    · exact .refl s

theorem takeStageDrop_untouched (p : List Byte) (s : State) : Untouched s (takeStageDrop p s).state := by
  unfold takeStageDrop
  split
  · exact .refl s
  · simp only
    split
    · exact .of_link rfl rfl rfl
    · split
      · exact .of_link rfl rfl rfl
      · exact .refl s

theorem takeStageAlternate_untouched (p : List Byte) (s : State) : Untouched s (takeStageAlternate p s).state := by
  unfold takeStageAlternate
  split
  · exact .refl s
  · exact .of_link rfl rfl rfl
  · split
    · exact .of_link rfl rfl rfl
    · exact .refl s

theorem takeStandby_untouched (p : List Byte) (s : State) : Untouched s (takeStandby p s).state := by
  unfold takeStandby
  split
  · exact .refl s
  · split
    · split
      · exact enterStandby_untouched s
      · exact .refl s
    · exact enterStandby_untouched s
    · exact .refl s

theorem takeWake_untouched (p : List Byte) (s : State) : Untouched s (takeWake p s).state := by
  unfold takeWake
  split
  · exact .refl s
  · split
    · exact wakeUp_untouched _ s
    · exact .refl s
    · exact .refl s

theorem takeStart_untouched (p : List Byte) (s : State) : Untouched s (takeStart p s).state := by
  unfold takeStart
  split
  · exact .refl s
  · split
    · exact .refl s
    · split
      · exact .refl s
      · split
        · exact .refl s
        · split
          · exact .refl s
          · next h => exact startByState_untouched h

theorem takeCycle_untouched (p : List Byte) (s : State) : Untouched s (takeCycle p s).state := by
  unfold takeCycle
  split
  · exact .refl s
  · split
    · exact cycleSource_untouched s
    · exact .refl s

theorem takeHalt_untouched (p : List Byte) (s : State) : Untouched s (takeHalt p s).state := by
  unfold takeHalt
  split
  · exact .refl s
  · exact haltRun_untouched s

theorem takeAbort_untouched (p : List Byte) (s : State) : Untouched s (takeAbort p s).state := by
  unfold takeAbort
  split
  · exact .refl s
  · split
    · exact abortRun_untouched s
    · exact .refl s

theorem takeLockSetup_untouched (p : List Byte) (s : State) : Untouched s (takeLockSetup p s).state := by
  unfold takeLockSetup
  split
  · exact .refl s
  · split
    · exact .refl s
    · show Untouched s (putLockSetup _ s)
      unfold putLockSetup
      exact .cond (.of_link rfl rfl rfl) (.of_link rfl rfl rfl)

theorem capture_untouched (b : Fin 4) (c : Command) (p : List Byte) (s : State) :
    Untouched s (capture b c p s).state := by
  unfold capture
  split
  · exact .refl s
  · simp only
    split
    · exact .of_link rfl rfl rfl
    · exact .refl s

theorem executeDirect_untouched (c : Command) (p : List Byte) (s : State) :
    Untouched s (executeDirect c p s).state := by
  cases c
  · exact takeIdentify_untouched p s
  · exact takeStatus_untouched p s
  · exact takeReportMask_untouched p s
  · exact takeReset_untouched p s
  · exact takeShotPut_untouched p s
  · exact takeShotGet_untouched p s
  · exact takeSeqSelect_untouched p s
  · exact takeTableClear_untouched p s
  · exact takeFire_untouched p s
  · exact takeSenseSet_untouched p s
  · exact takeSenseGet_untouched p s
  · exact takeRunSetup_untouched p s
  · exact takeStart_untouched p s
  · exact takeCycle_untouched p s
  · exact takeHalt_untouched p s
  · exact takeAbort_untouched p s
  · exact takeLockSetup_untouched p s
  · exact takeRegMode_untouched p s
  · exact takeRegForce_untouched p s
  · exact takeRegBands_untouched p s
  · exact takeRegLimits_untouched p s
  · exact takeRegGet_untouched p s
  · exact takeLightDuty_untouched p s
  · exact takeLightGet_untouched p s
  · exact takeFaultClear_untouched p s
  · exact takeStageOpen_untouched p s
  · exact takeStageClose_untouched p s
  · exact takeStageLaunch_untouched p s
  · exact takeStageDrop_untouched p s
  · exact takeStageLayout_untouched p s
  · exact takeStageAlternate_untouched p s
  · exact takeStageGet_untouched p s
  · exact takeResultRead_untouched p s
  · exact takeResultFlush_untouched p s
  · exact takeResultThreshold_untouched p s
  · exact takeStandby_untouched p s
  · exact takeWake_untouched p s
  · exact takeSupplySetup_untouched p s

/-- Execution of a taken frame touches nothing of the queues of commands and replies (R161). -/
theorem execute_untouched (f : Frame) (s : State) : Untouched s (execute f s).state := by
  unfold execute
  split
  · unfold executeCommand
    split
    · split
      · exact capture_untouched _ _ _ s
      · exact executeDirect_untouched _ _ s
    · exact executeDirect_untouched _ _ s
  · exact .refl s

/-! ### Answering -/

/-- Answering a frame adds its one reply to the Reply Queue (R163). -/
theorem answer_replies (f : Frame) (s : State) :
    (answer f s).link.replies = s.link.replies ++ [replyFrame f (execute f s).reply] := by
  simp [answer, pushReply, (execute_untouched f s).replies]

@[simp] theorem answer_commands (f : Frame) (s : State) :
    (answer f s).link.commands = s.link.commands := (execute_untouched f s).commands
@[simp] theorem answer_resetCause (f : Frame) (s : State) :
    (answer f s).resetCause = s.resetCause := (execute_untouched f s).resetCause
@[simp] theorem answer_pending (f : Frame) (s : State) :
    (answer f s).pending = s.pending := (execute_untouched f s).pending

/-! ### The service of the queues -/

/-- What the transmitter's choice, every taking and nothing else keeps, the service keeps. -/
theorem service_keeps {P : State → Prop} (hs : ∀ s, P s → P (startSend s)) (ht : ∀ s, P s → P (takeOne s)) :
    ∀ n s, P s → P (service n s)
  | 0, s, h => hs s h
  | n + 1, s, h => by
    unfold service
    split
    · exact service_keeps hs ht n _ (ht _ (hs s h))
    · exact hs s h

theorem settle_keeps {P : State → Prop} (hs : ∀ s, P s → P (startSend s)) (ht : ∀ s, P s → P (takeOne s))
    {s : State} (h : P s) : P (settle s) :=
  service_keeps hs ht _ s h

theorem takeOne_pending (s : State) : (takeOne s).pending = s.pending := by
  unfold takeOne
  split
  · rfl
  · simp

theorem takeOne_resetCause (s : State) : (takeOne s).resetCause = s.resetCause := by
  unfold takeOne
  split
  · rfl
  · simp

@[simp] theorem settle_pending (s : State) : (settle s).pending = s.pending :=
  settle_keeps (P := fun t => t.pending = s.pending) (fun _ h => by simpa using h)
    (fun t h => (takeOne_pending t).trans h) rfl

@[simp] theorem settle_resetCause (s : State) : (settle s).resetCause = s.resetCause :=
  settle_keeps (P := fun t => t.resetCause = s.resetCause) (fun _ h => by simpa using h)
    (fun t h => (takeOne_resetCause t).trans h) rfl

/-- With no command waiting the service is the transmitter's choice alone. -/
theorem settle_calm {s : State} (h : s.link.commands = []) : settle s = startSend s := by
  simp [settle, h, service]

/-- A frame that arrives at a Command Queue with room joins it (R160). -/
theorem arrive_room {f : Frame} {s : State} (hp : f.payload.length ≤ 250)
    (hc : s.link.commands.length < 4) :
    arrive f s = { s with link.commands := s.link.commands ++ [f] } := by
  simp [arrive, Config.payloadCapacity, Config.commandCapacity, hc, Nat.not_lt.mpr hp]

/-- With one command waiting that can be taken, the service takes and answers it, and the transmitter then
makes its choice (R161, R164). -/
theorem settle_one {f : Frame} {s : State} (h1 : s.link.executor = .idle) (h2 : s.link.commands = [f])
    (h3 : s.link.replies.length < 4)
    (h4 : s.link.sending = none → s.link.replies = [] ∧ s.link.reports = []) :
    settle s = startSend (answer f { s with link.commands := [] }) := by
  have hc : canTake s = true := by simp [canTake, h1, h2, h3, Config.replyCapacity]
  have ht : takeOne s = answer f { s with link.commands := [] } := by simp [takeOne, h2]
  rw [settle, h2]
  show service 1 s = _
  rw [service, startSend_settled h4, if_pos hc, ht, service]

/-- A host command that arrives at a ready part is taken and answered in the same event, and the
transmitter then makes its choice (R160, R161, R164). -/
theorem event_arrive_ready {f : Frame} {s : State} (hp : f.payload.length ≤ 250) (h0 : s.resetCause = none)
    (h1 : s.link.executor = .idle) (h2 : s.link.commands = []) (h3 : s.link.replies.length < 4)
    (h4 : s.link.sending = none → s.link.replies = [] ∧ s.link.reports = []) :
    event (arrive f) s = .next (startSend (answer f s)) := by
  have ha : arrive f s = { s with link.commands := s.link.commands ++ [f] } :=
    arrive_room hp (by simp [h2])
  have hs : settle (arrive f s) = startSend (answer f s) := by
    rw [settle_one (f := f) (s := arrive f s) (by rw [ha]; exact h1) (by rw [ha]; simp [h2])
      (by rw [ha]; exact h3) (by rw [ha]; exact h4)]
    have hback : { arrive f s with link.commands := [] } = s := by
      rw [ha]
      cases s with
      | mk table seq sense regs lights run lock stage results link supply pins rc pending =>
        cases link
        simp_all
    rw [hback]
  simp [event, h0, hs]

/-- With the queues settled, an effect that touches none of them leaves only the transmitter's choice to be
made (R164). -/
theorem settle_untouched {s t : State} (hu : Untouched s t)
    (hq : s.link.sending = none → s.link.replies = [] ∧ s.link.reports = [])
    (hc : s.link.commands = [] ∨ s.link.executor = .holding ∨ 4 ≤ s.link.replies.length) :
    settle t = startSend t := by
  rcases hc with hc | hc | hc
  · exact settle_calm (hu.commands.trans hc)
  · have hx : canTake (startSend t) = false := by simp [canTake, hu.executor hc]
    unfold settle
    cases t.link.commands.length <;> simp [service, hx]
  · cases hs : s.link.sending with
    | none => rw [(hq hs).1] at hc; simp at hc
    | some f =>
      have ht : startSend t = t := startSend_busy (hu.sending.trans hs)
      have hx : canTake (startSend t) = false := by
        rw [ht]
        simp only [canTake, hu.replies, Config.replyCapacity]
        simp [Nat.not_lt.mpr hc]
      unfold settle
      cases t.link.commands.length <;> simp [service, hx]

/-- An event at a part out of reset with its queues settled: its effect, then the transmitter's choice
(R164). -/
theorem event_settled {f : State → State} {s : State} (h0 : s.resetCause = none)
    (hu : Untouched s (f s)) (hq : s.link.sending = none → s.link.replies = [] ∧ s.link.reports = [])
    (hc : s.link.commands = [] ∨ s.link.executor = .holding ∨ 4 ≤ s.link.replies.length) :
    event f s = .next (startSend (f s)) := by
  simp [event, h0, settle_untouched hu hq hc]

end Sys2Proof.Machine
end

