-- ==== Sys2Proof/Laws/Answering.lean ====
section
/-!
SUPPORT. How a statement about one command reaches the command's `take` definition: what arrival at a Ready
part comes to, routing with no bank OPEN, events at a Resting part, and numbers that survive their bytes.
-/

namespace Sys2Proof.Machine

open Sys2Proof.Safety

/-- A host command that arrives at a Ready part is executed and answered in the same event (R161). -/
theorem hostCommand_ready {c : Command} {tag : Byte} {p : List Byte} {s : State} (h : Ready s)
    (hp : p.length ≤ 250) :
    hostCommand c tag p s =
      .next (replied (replyCode (commandCode c)) tag (executeCommand c p s).reply (executeCommand c p s).state) := by
  obtain ⟨h0, h1, h2, h3, h4⟩ := h
  unfold hostCommand
  rw [event_arrive_ready (by simpa using hp) h0 h1 h2 h3 h4]
  have hc : commandOfCode (commandCode c) = some c := by cases c <;> rfl
  simp [answer, execute, hc, replied, replyFrame]

/-- With no bank OPEN every command is executed directly (R161). -/
theorem executeCommand_noOpen {c : Command} {p : List Byte} {s : State} (h : NoOpen s) :
    executeCommand c p s = executeDirect c p s := by
  have h0 := h 0; have h1 := h 1; have h2 := h 2; have h3 := h 3
  simp only [Quad.get] at h0 h1 h2 h3
  simp [executeCommand, openBank, h0, h1, h2, h3]

/-- A command that is not stageable is executed directly (R161). -/
theorem executeCommand_unstageable {c : Command} {p : List Byte} {s : State} (h : isStageable c = false) :
    executeCommand c p s = executeDirect c p s := by
  unfold executeCommand; split <;> simp [h]

/-- An event at a Resting part acts, and then the transmitter makes its choice (R161, R164). -/
theorem event_resting {f : State → State} {s : State} (h : Resting s) (hu : Untouched s (f s)) :
    event f s = .next (startSend (f s)) :=
  event_settled h.1 hu h.2.1 h.2.2

/-- The same for an event of an input pin. -/
theorem pinEvent_resting {lv f : State → State} {s : State} (h : Resting s) (hu : Untouched s (f s)) :
    pinEvent lv f s = .next (startSend (f s)) := by
  have he := event_resting h hu
  simp only [event, h.1] at he
  simpa [pinEvent, h.1] using he

/-! ### Numbers and their bytes -/

/-- A light's number survives its byte. -/
@[simp] theorem lightOf_mod (l : Light) : lightOf (l.val % 256) = some l := by revert l; decide

/-- A bank's number survives its byte. -/
@[simp] theorem bankOf_mod (b : Fin 4) : bankOf (b.val % 256) = some b := by revert b; decide

/-- A number from 8 up names no light (R183). -/
theorem lightOf_none {n : Nat} (h : 8 ≤ n) : lightOf n = none := by simp [lightOf, Nat.not_lt.mpr h]

/-- A number from 4 up names no bank (R183). -/
theorem bankOf_none {n : Nat} (h : 4 ≤ n) : bankOf n = none := by simp [bankOf, Nat.not_lt.mpr h]

/-- A number from 2 up is no flag (R183). -/
theorem boolOf_none {n : Nat} (h : 2 ≤ n) : boolOf n = none := by
  match n, h with
  | _ + 2, _ => rfl

/-- A number from 2 up is no polarity (R183). -/
theorem polarityOf_none {n : Nat} (h : 2 ≤ n) : polarityOf n = none := by
  match n, h with
  | _ + 2, _ => rfl

/-- A number from 3 up is no start source (R183). -/
theorem startSourceOf_none {n : Nat} (h : 3 ≤ n) : startSourceOf n = none := by
  match n, h with
  | _ + 3, _ => rfl

/-- A number from 4 up is no cycle source (R183). -/
theorem cycleSourceOf_none {n : Nat} (h : 4 ≤ n) : cycleSourceOf n = none := by
  match n, h with
  | _ + 4, _ => rfl

/-- A number from 4 up is no stop source (R183). -/
theorem stopSourceOf_none {n : Nat} (h : 4 ≤ n) : stopSourceOf n = none := by
  match n, h with
  | _ + 4, _ => rfl

/-- A 16-bit number survives its two bytes. -/
theorem word16_bytes {n : Nat} (h : n < 65536) : n % 256 + 256 * (n / 256 % 256) = n := by omega

/-- A 32-bit number survives its four bytes. -/
theorem word32_bytes {n : Nat} (h : n < 4294967296) :
    n % 256 + 256 * (n / 256 % 256) + 65536 * (n / 65536 % 256 + 256 * (n / 65536 / 256 % 256)) = n := by omega

/-- TRIG stands at its active level (R51). -/
theorem trigActive_iff (s : State) :
    trigActive s = true ↔ (s.run.setup.polarity = .rising ↔ s.pins.trigHigh = true) := by
  unfold trigActive; split <;> simp_all

end Sys2Proof.Machine
end

