-- ==== Sys2Proof/Laws/Keeping.lean ====
section
/-!
SUPPORT. One principle for every invariant that does not speak of the Link Port: what each block's effects
keep, every step keeps. It says once which effects a step can have.
-/

namespace Sys2Proof.Machine

/-- `P` does not read the Link Port, the pins, the reset cause or the waiting commands, and each block's own
effects keep it. -/
structure KeptBy (P : State → Prop) : Prop where
  link : ∀ s k, P s → P { s with link := k }
  pins : ∀ s k, P s → P { s with pins := k }
  resetCause : ∀ s k, P s → P { s with resetCause := k }
  pending : ∀ s k, P s → P { s with pending := k }
  command : ∀ c p s, P s → P (executeDirect c p s).state
  capture : ∀ b c p s, openBank s.stage = some b → isStageable c = true → P s → P (capture b c p s).state
  pacerExpiry : ∀ s, P s → P (pacerExpiry s)
  encoderEdge : ∀ s, P s → P (encoderEdge s)
  trigActiveEdge : ∀ s, P s → P (trigActiveEdge s)
  trigInactiveEdge : ∀ s, P s → P (trigInactiveEdge s)
  syncEdge : ∀ d s, P s → P (syncEdge d s)
  watchExpiry : ∀ s, P s → P (watchExpiry s)
  phaseDelayEnd : ∀ s, P s → P (phaseDelayEnd s)
  flashStart : ∀ s, P s → P (flashStart s)
  firingEnd : ∀ l s, P s → P (firingEnd l s)
  flashEnd : ∀ c m s, P s → P (flashEnd c m s)
  tailEnd : ∀ s, P s → P (tailEnd s)
  gapEnd : ∀ s, P s → P (gapEnd s)
  dutyTimerExpiry : ∀ s, P s → P (dutyTimerExpiry s)
  faultArrival : ∀ l s, P s → P (faultArrival l s)
  settleExpiry : ∀ s, P s → P (settleExpiry s)
  fullReset : ∀ c s, P s → P (fullReset c s)
  startLights : ∀ s, P s → P (startLights s)
  passTime : ∀ s, P s → P (passTime s)

namespace KeptBy

variable {P : State → Prop}

theorem startSend (h : KeptBy P) (s : State) (hs : P s) : P (startSend s) := by
  rw [startSend_eq]; exact h.link _ _ hs

theorem raise (h : KeptBy P) (k : ReportKind) (p : List Byte) (s : State) (hs : P s) : P (raise k p s) := by
  rw [raise_eq]; exact h.link _ _ hs

theorem execute (h : KeptBy P) (f : Frame) (s : State) (hs : P s) : P (execute f s).state := by
  unfold Machine.execute
  split
  · unfold executeCommand
    split
    · next b hb =>
      split
      · next hc => exact h.capture _ _ _ _ hb hc hs
      · exact h.command _ _ _ hs
    · exact h.command _ _ _ hs
  · exact hs

theorem answer (h : KeptBy P) (f : Frame) (s : State) (hs : P s) : P (answer f s) :=
  h.link _ _ (h.execute f s hs)

theorem takeOne (h : KeptBy P) (s : State) (hs : P s) : P (takeOne s) := by
  unfold Machine.takeOne
  split
  · exact hs
  · exact h.answer _ _ (h.link _ _ hs)

theorem settle (h : KeptBy P) (s : State) (hs : P s) : P (settle s) :=
  settle_keeps h.startSend h.takeOne hs

theorem completeReset (h : KeptBy P) (s : State) (hs : P s) : P (completeReset s) := by
  unfold Machine.completeReset
  split
  · exact hs
  · refine h.startSend _ ?_
    have h1 := h.startLights s hs
    have h2 := h.resetCause _ none h1
    exact h.link _ _ h2

theorem commandReset (h : KeptBy P) (s : State) (hs : P s) : P (commandReset s) :=
  h.completeReset _ (h.fullReset _ _ hs)

theorem event (h : KeptBy P) {f : State → State} (hf : ∀ s, P s → P (f s)) {s t : State} (hs : P s)
    (he : event f s = .next t) : P t := by
  unfold Machine.event at he
  cases he
  split
  · exact hs
  · exact h.settle _ (hf s hs)

theorem pinEvent (h : KeptBy P) {l f : State → State} (hl : ∀ s, P s → P (l s)) (hf : ∀ s, P s → P (f s))
    {s t : State} (hs : P s) (he : pinEvent l f s = .next t) : P t := by
  unfold Machine.pinEvent at he
  cases he
  split
  · exact hl s hs
  · exact h.settle _ (hf s hs)

theorem arrive (h : KeptBy P) (f : Frame) (s : State) (hs : P s) : P (arrive f s) := by
  unfold Machine.arrive
  split
  · exact hs
  · split <;> exact h.link _ _ hs

theorem judge (h : KeptBy P) (got : List Byte) (s : State) (hs : P s) : P (judge got s) := by
  unfold Machine.judge
  split
  · exact h.arrive _ _ hs
  · exact h.link _ _ hs

theorem receiveByte (h : KeptBy P) (b : Byte) (s : State) (hs : P s) : P (receiveByte b s) := by
  unfold Machine.receiveByte
  split
  · exact hs
  · split
    · split
      · exact h.link _ _ hs
      · exact hs
    · unfold collect
      split
      · exact h.link _ _ hs
      · split
        · split
          · exact h.link _ _ hs
          · exact h.judge _ _ (h.link _ _ hs)
        · exact h.link _ _ hs

theorem receiveFrame (h : KeptBy P) (bytes : List Byte) (s : State) (hs : P s) :
    P (receiveFrame bytes s) := by
  unfold Machine.receiveFrame
  induction bytes generalizing s with
  | nil => exact hs
  | cons b bs ih => exact ih _ (h.settle _ (h.receiveByte b s hs))

theorem framingErrorSeen (h : KeptBy P) (held : Bool) (s : State) (hs : P s) :
    P (framingErrorSeen held s) := by
  unfold Machine.framingErrorSeen
  split
  · exact hs
  · exact h.link s _ hs

theorem gapTimerExpires (h : KeptBy P) (s : State) (hs : P s) : P (gapTimerExpires s) := by
  unfold Machine.gapTimerExpires
  split
  · exact h.link _ _ hs
  · exact hs

theorem frameSentEvent (h : KeptBy P) (s : State) (hs : P s) : P (frameSentEvent s) := by
  unfold Machine.frameSentEvent
  split
  · split
    · exact h.commandReset _ hs
    · exact h.link _ _ hs
  · exact hs

theorem fullResetEvent (h : KeptBy P) (s : State) (hs : P s) : P (fullResetEvent s) := by
  unfold Machine.fullResetEvent
  split
  · exact h.commandReset _ hs
  · exact hs

theorem encoderZero (h : KeptBy P) (s : State) (hs : P s) : P (encoderZero s) := by
  unfold Machine.encoderZero
  split
  · exact h.encoderEdge s hs
  · exact hs

/-- What the blocks' effects keep, every command and event keeps. -/
theorem exec (h : KeptBy P) (i : Instr) {s t : State} (hs : P s) (he : exec i s = .next t) : P t := by
  cases i <;> simp only [Machine.exec] at he
  case frameReceived b => exact h.event (h.receiveFrame b) hs he
  case byteReceived b => exact h.event (h.receiveByte b) hs he
  case framingError b => exact h.event (h.framingErrorSeen b) hs he
  case gapTimerExpiry => exact h.event h.gapTimerExpires hs he
  case lineReturnToIdle => exact h.event (fun s hs => h.link s _ hs) hs he
  case frameSent => exact h.event h.frameSentEvent hs he
  case fullReset => exact h.event h.fullResetEvent hs he
  case powerOn => cases he; exact h.fullReset _ _ hs
  case rstnLow => cases he; exact h.fullReset _ _ hs
  case resetCompletion => cases he; exact h.completeReset _ hs
  case pacerExpiry => exact h.event h.pacerExpiry hs he
  case encEdge => exact h.event h.encoderEdge hs he
  case encoderCounterZero => exact h.event h.encoderZero hs he
  case trigActiveEdge => exact h.pinEvent (fun s hs => h.pins s _ hs) h.trigActiveEdge hs he
  case trigInactiveEdge => exact h.pinEvent (fun s hs => h.pins s _ hs) h.trigInactiveEdge hs he
  case syncEdge d => exact h.event (h.syncEdge d) hs he
  case watchExpiry => exact h.event h.watchExpiry hs he
  case phaseDelayEnd => exact h.event h.phaseDelayEnd hs he
  case flashStart => exact h.event h.flashStart hs he
  case firingEnd l => exact h.event (h.firingEnd l) hs he
  case flashEnd c m => exact h.event (h.flashEnd c m) hs he
  case tailEnd => exact h.event h.tailEnd hs he
  case gapEnd => exact h.event h.gapEnd hs he
  case dutyTimerExpiry => exact h.event h.dutyTimerExpiry hs he
  case faultArrival l => exact h.pinEvent (fun s hs => h.pins s _ hs) (h.faultArrival l) hs he
  case settleExpiry => exact h.event h.settleExpiry hs he
  case faultLineReturnToInactive l =>
    exact h.pinEvent (fun s hs => h.pins s _ hs) (fun s hs => h.pins s _ hs) hs he
  all_goals exact h.event (h.arrive _) hs he

/-- What the blocks' effects keep, every step keeps. -/
theorem step (h : KeptBy P) {s t : State} (hs : P s) (he : step s = .next t) : P t := by
  unfold Machine.step at he
  split at he
  · cases he; exact h.passTime _ hs
  · exact h.exec _ (h.pending _ _ hs) he

end KeptBy

end Sys2Proof.Machine
end

