-- ==== Sys2Proof/Laws/Blocks.lean ====
section
/-!
SUPPORT. One principle for every invariant over the Shot Table, the regulators, the light channels, the Stage Unit,
the Result Queue and the Sense Front End: what each block's own updates keep, every step keeps. The sequencing of a run, a
cycle and a shot drops out here once and for all.
-/

namespace Sys2Proof.Machine

/-- `P` reads only the six blocks named, and each of their own updates keeps it. -/
structure KeptByBlocks (P : State → Prop) : Prop where
  free : ∀ {s t : State}, P s → t.table = s.table → t.regs = s.regs → t.lights = s.lights →
    t.stage = s.stage → t.results = s.results → t.sense = s.sense → P t
  latch : ∀ c s, P s → P (latchReadings c s)
  takeBaselines : ∀ sh s, P s → P (takeBaselines sh s)
  stopSense : ∀ s, P s → P { s with sense.integrating := false }
  clearSense : ∀ s, P s → P { s with sense.integrators := ⟨0, 0, 0, 0⟩ }
  senseSet : ∀ q s, (∀ i, q.get i ≤ 65535) → P s → P { s with sense.baselines := q }
  putShot : ∀ i e s t, entryValid e = true → Machine.putShot i e s = some t → i ≤ 127 → P s → P t
  putSeqStart : ∀ i s t, Machine.putSeqStart i s = some t → P s → P t
  tableClear : ∀ s, P s → P { s with table := ⟨[], 0⟩ }
  closeRegs : ∀ s, P s → P (updateRegs closeRegulator s)
  clearRegs : ∀ s, P s → P (updateRegs clearAccumulator s)
  resetRegs : ∀ s, P s → P (updateRegs runResetRegulator s)
  figure : ∀ l r b s, P s → P (updateReg l (takeFigure r b) s)
  clip : ∀ l s, P s → P (updateReg l takeClip s)
  regMode : ∀ l m s, P s → P (putRegMode l m s)
  regForce : ∀ l d c s t, putRegForce l d c s = some t → P s → P t
  regBands : ∀ l b s, bandsValid b = true → P s → P (putRegBands l b s)
  regLimits : ∀ l m s, limitsValid m = true → P s → P (putRegLimits l m s)
  clearFault : ∀ l s, P s → P (clearFault l s)
  lightDuty : ∀ l a b s, 1 ≤ a → a ≤ 4000000 → b ≤ 65535 → P s → P (putLightDuty l a b s)
  lightOff : ∀ l s, P s → P (lightOff l s)
  allLightsOff : ∀ s, P s → P (allLightsOff s)
  beginFlash : ∀ sh s, P s → P (beginFlash sh s)
  cool : ∀ s, P s → P (Machine.dutyTimerExpiry s)
  setFaulted : ∀ l s, P s → P (setFaulted l s)
  passTime : ∀ s, P s → P (passTime s)
  startLights : ∀ s, P s → P (startLights s)
  append : ∀ r s, s.results.count < 512 → P s → P { s with results.records := s.results.records ++ [r] }
  lose : ∀ s, P s → P { s with results.lost := saturate top32 s.results.lost }
  shrink : ∀ rs s, rs.length ≤ s.results.records.length → P s → P { s with results.records := rs }
  found : ∀ s, P s → P { s with results.lost := 0 }
  threshold : ∀ n s, 1 ≤ n → n ≤ 512 → P s → P { s with results.threshold := n }
  capture : ∀ b c p s, openBank s.stage = some b → isStageable c = true → P s →
    P (capture b c p s).state
  stageOpen : ∀ p s, P s → P (takeStageOpen p s).state
  stageClose : ∀ p s, P s → P (takeStageClose p s).state
  stageDrop : ∀ p s, P s → P (takeStageDrop p s).state
  stageLayout : ∀ p s, P s → P (takeStageLayout p s).state
  stageAlternate : ∀ p s, P s → P (takeStageAlternate p s).state
  pend : ∀ b s, (s.stage.banks.get b).state = .ready → inRotation s.stage b = false → P s →
    P (setBank b { s.stage.banks.get b with state := .pending } s)
  applied : ∀ b s, (s.stage.banks.get b).state = .pending → P s →
    P (setBank b { s.stage.banks.get b with state := .ready } s)
  turn : ∀ r s, s.stage.alternation = some r → P s →
    P { s with stage.alternation := alternationAfter r }
  resetStage : ∀ s, P s →
    P { s with stage.banks := s.stage.banks.map runResetBank, stage.alternation := none }
  fullReset : ∀ c s, P (fullReset c s)

/-! ### What the operand checks establish -/

theorem sized_ok {α : Type} {n : Nat} {p : List Byte} {v : Option α} {a : α} (h : sized n p v = .ok a) :
    p.length = n ∧ v = some a := by
  unfold sized at h
  split at h
  · split at h
    · cases h; exact ⟨by assumption, rfl⟩
    · cases h
  · cases h

theorem checked_some {α : Type} {ok : Bool} {v a : α} (h : checked ok v = some a) : ok = true ∧ v = a := by
  cases ok <;> simp [checked] at h
  exact ⟨rfl, h⟩

theorem byteAt_lt (p : List Byte) (i : Nat) : byteAt p i < 256 := (p.getD i 0#8).isLt

theorem word16At_lt (p : List Byte) (i : Nat) : word16At p i < 65536 := by
  have h := byteAt_lt p i
  have g := byteAt_lt p (i + 1)
  unfold word16At; omega

theorem parseShotPut_ok {p : List Byte} {i : Nat} {e : ShotEntry} (h : parseShotPut p = .ok (i, e)) :
    i ≤ 127 ∧ entryValid e = true := by
  have := (sized_ok h).2
  split at this
  · obtain ⟨h1, h2⟩ := checked_some this
    cases h2
    simpa using h1
  · cases this

theorem parseRegBands_ok {p : List Byte} {l : Light} {b : RegBands} (h : parseRegBands p = .ok (l, b)) :
    bandsValid b = true := by
  have := (sized_ok h).2
  split at this
  · obtain ⟨h1, h2⟩ := checked_some this
    cases h2
    exact h1
  · cases this

theorem parseRegLimits_ok {p : List Byte} {l : Light} {m : RegLimits} (h : parseRegLimits p = .ok (l, m)) :
    limitsValid m = true := by
  have := (sized_ok h).2
  split at this
  · obtain ⟨h1, h2⟩ := checked_some this
    cases h2
    exact h1
  · cases this

theorem parseLightDuty_ok {p : List Byte} {l : Light} {a b : Nat} (h : parseLightDuty p = .ok (l, a, b)) :
    1 ≤ a ∧ a ≤ 4000000 ∧ b ≤ 65535 := by
  have := (sized_ok h).2
  split at this
  · obtain ⟨h1, h2⟩ := checked_some this
    cases h2
    simp at h1
    have := word16At_lt p 5
    omega
  · cases this

theorem parseThreshold_ok {p : List Byte} {n : Nat} (h : parseThreshold p = .ok n) : 1 ≤ n ∧ n ≤ 512 := by
  obtain ⟨h1, h2⟩ := checked_some (sized_ok h).2
  subst h2
  simpa using h1

theorem parseSenseSet_ok {p : List Byte} {q : Quad Nat} (h : parseSenseSet p = .ok q) :
    ∀ i, q.get i ≤ 65535 := by
  have g := (sized_ok h).2
  cases g
  intro i
  fin_cases i <;> exact Nat.le_of_lt_succ (word16At_lt p _)

namespace KeptByBlocks

variable {P : State → Prop}

/-! ### Raising a report and changing the run state -/

theorem raise (h : KeptByBlocks P) (k : ReportKind) (p : List Byte) (s : State) (hs : P s) :
    P (raise k p s) := by
  rw [raise_eq]; exact h.free hs rfl rfl rfl rfl rfl rfl

theorem changeRun (h : KeptByBlocks P) (r : RunState) (c : RunCause) (s : State) (hs : P s) :
    P (changeRun r c s) :=
  h.raise _ _ _ (h.free hs rfl rfl rfl rfl rfl rfl)

theorem startEvent (h : KeptByBlocks P) (s : State) (hs : P s) : P (startEvent s) :=
  h.changeRun _ _ _ (h.free hs rfl rfl rfl rfl rfl rfl)

theorem gateCheck (h : KeptByBlocks P) (s : State) (hs : P s) : P (gateCheck s) := by
  unfold Machine.gateCheck
  split
  · exact h.startEvent s hs
  · exact hs

theorem armRun (h : KeptByBlocks P) (s : State) (hs : P s) : P (armRun s) :=
  h.gateCheck _ (h.changeRun _ _ _ hs)

theorem runEnd (h : KeptByBlocks P) (s : State) (hs : P s) : P (runEnd s) := by
  have g : P (Machine.changeRun (runDestination s.run.stopKind s.run.setup.repeats) .runEnd (closeRun s)) :=
    h.changeRun _ _ _ (h.free hs rfl rfl rfl rfl rfl rfl)
  unfold Machine.runEnd
  simp only
  split
  · exact h.gateCheck _ g
  · exact g

theorem runEndCheck (h : KeptByBlocks P) (s : State) (hs : P s) : P (runEndCheck s) := by
  unfold Machine.runEndCheck
  split
  · exact h.runEnd s hs
  · exact hs

theorem goIdle (h : KeptByBlocks P) (c : RunCause) (s : State) (hs : P s) : P (goIdle c s) := by
  unfold Machine.goIdle
  split
  · exact hs
  · exact h.changeRun _ _ _ hs

/-! ### Results -/

theorem offerRecord (h : KeptByBlocks P) (r : ResultRecord) (s : State) (hs : P s) :
    P (offerRecord r s) := by
  unfold Machine.offerRecord
  split
  · next hc =>
    have g := h.append r s hc hs
    unfold addRecord
    simp only
    split
    · exact h.raise _ _ _ g
    · exact g
  · exact h.free (h.lose s hs) rfl rfl rfl rfl rfl rfl

/-! ### Staging -/

theorem applyRecord (h : KeptByBlocks P) {r : StageRecord} {s t : State} (ht : applyRecord r s = some t)
    (hs : P s) : P t := by
  rcases applyRecord_cases ht with ⟨_, _, hp, ht⟩ | ⟨_, ht⟩ | ⟨_, _, rfl⟩ | ⟨_, _, _, ht⟩ | ⟨_, _, hp, rfl⟩ |
    ⟨_, _, hp, rfl⟩ | ⟨_, _, _, hp, rfl⟩
  · exact h.putShot _ _ s t (parseShotPut_ok hp).2 ht (parseShotPut_ok hp).1 hs
  · exact h.putSeqStart _ s t ht hs
  · exact h.regMode _ _ s hs
  · exact h.regForce _ _ _ s t ht hs
  · exact h.regBands _ _ s (parseRegBands_ok hp) hs
  · exact h.regLimits _ _ s (parseRegLimits_ok hp) hs
  · obtain ⟨h1, h2, h3⟩ := parseLightDuty_ok hp
    exact h.lightDuty _ _ _ s h1 h2 h3 hs

theorem applyBank (h : KeptByBlocks P) (b : Fin 4) (s : State) (hs : P s) : P (applyBank b s).state :=
  h.raise _ _ _ (applyRecords_keep (fun _ _ _ ht hs => h.applyRecord ht hs) _ _ hs)

end KeptByBlocks

/-! ### What an application leaves alone -/

/-- One record changes only the Shot Table, the regulators and the light channels (R136). -/
structure OnlyConfiguration (s t : State) : Prop where
  seq : t.seq = s.seq
  sense : t.sense = s.sense
  run : t.run = s.run
  lock : t.lock = s.lock
  stage : t.stage = s.stage
  results : t.results = s.results
  supply : t.supply = s.supply
  pins : t.pins = s.pins

theorem OnlyConfiguration.refl (s : State) : OnlyConfiguration s s := ⟨rfl, rfl, rfl, rfl, rfl, rfl, rfl, rfl⟩

theorem OnlyConfiguration.trans {s t u : State} (h : OnlyConfiguration s t) (g : OnlyConfiguration t u) :
    OnlyConfiguration s u :=
  ⟨g.seq.trans h.seq, g.sense.trans h.sense, g.run.trans h.run, g.lock.trans h.lock, g.stage.trans h.stage,
   g.results.trans h.results, g.supply.trans h.supply, g.pins.trans h.pins⟩

theorem putRegMode_only (l : Light) (m : RegMode) (s : State) : OnlyConfiguration s (putRegMode l m s) := by
  unfold putRegMode
  simp only
  split <;> exact ⟨rfl, rfl, rfl, rfl, rfl, rfl, rfl, rfl⟩

/-- A record changes only what it configures (R136). -/
theorem applyRecord_only {r : StageRecord} {s t : State} (h : applyRecord r s = some t) :
    OnlyConfiguration s t := by
  rcases applyRecord_cases h with ⟨_, _, _, h⟩ | ⟨_, h⟩ | ⟨_, _, rfl⟩ | ⟨_, _, _, h⟩ | ⟨_, _, _, rfl⟩ |
    ⟨_, _, _, rfl⟩ | ⟨_, _, _, _, rfl⟩
  · unfold putShot at h
    split at h
    · cases h; exact ⟨rfl, rfl, rfl, rfl, rfl, rfl, rfl, rfl⟩
    · split at h
      · cases h; exact ⟨rfl, rfl, rfl, rfl, rfl, rfl, rfl, rfl⟩
      · cases h
  · unfold putSeqStart at h
    split at h
    · cases h; exact ⟨rfl, rfl, rfl, rfl, rfl, rfl, rfl, rfl⟩
    · cases h
  · exact putRegMode_only _ _ _
  · unfold putRegForce at h
    split at h
    · cases h; exact ⟨rfl, rfl, rfl, rfl, rfl, rfl, rfl, rfl⟩
    · cases h
  all_goals exact ⟨rfl, rfl, rfl, rfl, rfl, rfl, rfl, rfl⟩

/-- Applying a bank changes only what its records configure, and raises its report (R136, R139). -/
theorem applyBank_only (b : Fin 4) (s : State) : OnlyConfiguration s (applyBank b s).state := by
  have h : OnlyConfiguration s (applyRecords (s.stage.banks.get b).records s).state :=
    applyRecords_keep (P := fun t => OnlyConfiguration s t) (fun _ _ _ h hs => hs.trans (applyRecord_only h))
      _ ⟨s, 0, 0⟩ (.refl s)
  refine h.trans ?_
  show OnlyConfiguration _ (raise _ _ _)
  rw [raise_eq]
  exact ⟨rfl, rfl, rfl, rfl, rfl, rfl, rfl, rfl⟩

namespace KeptByBlocks

variable {P : State → Prop}

theorem alternationStep (h : KeptByBlocks P) (s : State) (hs : P s) : P (alternationStep s) := by
  unfold Machine.alternationStep
  split
  · exact hs
  · next r hr =>
    simp only
    split
    · exact h.turn r _ (by rw [(applyBank_only _ s).stage]; exact hr) (h.applyBank _ s hs)
    · exact h.turn r s hr hs

theorem applyPending (h : KeptByBlocks P) (b : Fin 4) (s : State) (hs : P s) : P (applyPending b s) := by
  unfold Machine.applyPending
  split
  · next hb =>
    exact h.applied b _ (by rw [(applyBank_only b s).stage]; exact hb) (h.applyBank b s hs)
  · exact hs

theorem applyDueBanks (h : KeptByBlocks P) (s : State) (hs : P s) : P (applyDueBanks s) :=
  h.applyPending _ _ (h.applyPending _ _ (h.applyPending _ _ (h.applyPending _ _ (h.alternationStep s hs))))

/-! ### The Shot Sequencer -/

theorem flashStart (h : KeptByBlocks P) (s : State) (hs : P s) : P (flashStart s) := by
  unfold Machine.flashStart
  split
  · split
    · exact h.beginFlash _ s hs
    · exact hs
  · exact hs

theorem startShot (h : KeptByBlocks P) (i : Nat) (test : Bool) (s : State) (hs : P s) :
    P (startShot i test s) := by
  unfold Machine.startShot
  split
  · exact hs
  · have g : ∀ e, P (enterLead i e test s) := fun _ => h.free hs rfl rfl rfl rfl rfl rfl
    simp only
    split
    · exact h.flashStart _ (g _)
    · exact g _

theorem cycleBegin (h : KeptByBlocks P) (s : State) (hs : P s) : P (cycleBegin s) := by
  unfold Machine.cycleBegin
  refine h.startShot _ _ _ ?_
  have g := h.applyDueBanks { s with seq.cycleNumber := wrap32 s.seq.cycleNumber, seq.position := 0 }
    (h.free hs rfl rfl rfl rfl rfl rfl)
  exact h.free g rfl rfl rfl rfl rfl rfl

theorem openCycle (h : KeptByBlocks P) (s : State) (hs : P s) : P (openCycle s) := by
  have g : P (openRecord s) := h.free hs rfl rfl rfl rfl rfl rfl
  unfold Machine.openCycle
  simp only
  split
  · split
    · exact h.free g rfl rfl rfl rfl rfl rfl
    · exact h.cycleBegin _ (h.free g rfl rfl rfl rfl rfl rfl)
  · exact h.cycleBegin _ g

theorem closeCycle (h : KeptByBlocks P) (s : State) (hs : P s) : P (closeCycle s) := by
  unfold Machine.closeCycle
  refine h.runEndCheck _ ?_
  exact h.free (h.raise _ _ _ (h.closeRegs s hs)) rfl rfl rfl rfl rfl rfl

theorem nextShot (h : KeptByBlocks P) (s : State) (hs : P s) : P (nextShot s) := by
  unfold Machine.nextShot
  exact h.startShot _ _ _ (h.free hs rfl rfl rfl rfl rfl rfl)

theorem handOffCycle (h : KeptByBlocks P) (sh : Shot) (s : State) (hs : P s) : P (handOffCycle sh s) := by
  unfold Machine.handOffCycle handOff
  split
  · exact hs
  · split
    · exact hs
    · simp only
      split
      · refine h.clip _ _ ?_
        split
        · exact h.figure _ _ _ _ hs
        · exact hs
      · split
        · exact h.figure _ _ _ _ hs
        · exact hs

theorem recordShot (h : KeptByBlocks P) (sh : Shot) (m : LineSet) (s : State) (hs : P s) :
    P (recordShot sh m s) := by
  unfold Machine.recordShot
  split
  · exact hs
  · exact h.offerRecord _ s hs

theorem tailEnd (h : KeptByBlocks P) (s : State) (hs : P s) : P (tailEnd s) := by
  unfold Machine.tailEnd
  split
  · split
    · exact h.free hs rfl rfl rfl rfl rfl rfl
    · exact hs
  · exact hs

theorem finishFlash (h : KeptByBlocks P) (c : Quad Nat) (m : LineSet) (sh : Shot) (s : State) (hs : P s) :
    P (finishFlash c m sh s) := by
  have g2 := h.takeBaselines sh _ (h.latch c s hs)
  have g3 := h.recordShot sh m _ (h.handOffCycle sh _ g2)
  have g4 : P (noteClipped sh (Machine.recordShot sh m (Machine.handOffCycle sh
      (Machine.takeBaselines sh (latchReadings c s))))) := by
    unfold noteClipped
    split
    · exact h.free g3 rfl rfl rfl rfl rfl rfl
    · exact g3
  unfold Machine.finishFlash
  simp only
  have g5 : ∀ t, P t → P (enterPhase sh .tail sh.entry.tail t) := fun t ht => h.free ht rfl rfl rfl rfl rfl rfl
  split
  · exact h.tailEnd _ (g5 _ g4)
  · exact g5 _ g4

theorem flashEnd (h : KeptByBlocks P) (c : Quad Nat) (m : LineSet) (s : State) (hs : P s) :
    P (flashEnd c m s) := by
  unfold Machine.flashEnd
  split
  · split
    · exact h.finishFlash _ _ _ s hs
    · exact hs
  · exact hs

theorem gapEnd (h : KeptByBlocks P) (s : State) (hs : P s) : P (gapEnd s) := by
  unfold Machine.gapEnd
  split
  · split
    · split
      · exact h.free hs rfl rfl rfl rfl rfl rfl
      · unfold finishCycleShot
        simp only
        have g : P { s with seq.shotsRun := s.seq.shotsRun + 1 } := h.free hs rfl rfl rfl rfl rfl rfl
        split
        · exact h.changeRun _ _ _ (h.free g rfl rfl rfl rfl rfl rfl)
        · split
          · exact h.closeCycle _ g
          · exact h.nextShot _ g
    · exact hs
  · exact hs

theorem resume (h : KeptByBlocks P) (s : State) (hs : P s) : P (resume s) := by
  have g := h.changeRun .running .resume s hs
  unfold Machine.resume
  simp only
  split
  · exact h.closeCycle _ g
  · exact h.nextShot _ g

theorem stopSequencer (h : KeptByBlocks P) (s : State) (hs : P s) : P (stopSequencer s) :=
  h.free (h.stopSense _ (h.allLightsOff s hs)) rfl rfl rfl rfl rfl rfl

theorem discardCycle (h : KeptByBlocks P) (n k : Nat) (s : State) (hs : P s) : P (discardCycle n k s) := by
  unfold Machine.discardCycle
  refine h.raise _ _ _ (h.clearRegs _ ?_)
  exact h.free hs rfl rfl rfl rfl rfl rfl

theorem abortSequencer (h : KeptByBlocks P) (s : State) (hs : P s) : P (abortSequencer s) := by
  have g := h.stopSequencer s hs
  unfold Machine.abortSequencer
  split
  · exact h.discardCycle _ _ _ g
  · exact h.discardCycle _ _ _ g
  · exact h.discardCycle _ _ _ g
  · exact g
  · exact g

/-! ### Run control, line lock, supply, faults -/

theorem stopEvent (h : KeptByBlocks P) (k : StopKind) (s : State) (hs : P s) : P (stopEvent k s) := by
  have g : P (noteStop k s) := h.free hs rfl rfl rfl rfl rfl rfl
  unfold Machine.stopEvent
  split
  · exact hs
  · exact hs
  · exact h.runEnd _ g
  · exact h.runEndCheck _ (h.changeRun _ _ _ g)
  · exact hs
  · exact h.runEndCheck _ (h.changeRun _ _ _ (h.closeCycle _ (h.free g rfl rfl rfl rfl rfl rfl)))

theorem acceptCycle (h : KeptByBlocks P) (s : State) (hs : P s) : P (acceptCycle s) :=
  h.openCycle _ (h.free hs rfl rfl rfl rfl rfl rfl)

theorem cycleSource (h : KeptByBlocks P) (s : State) (hs : P s) : P (cycleSource s).state := by
  have miss : P (countMissed s) := h.free hs rfl rfl rfl rfl rfl rfl
  unfold Machine.cycleSource
  split
  · exact hs
  · exact hs
  · unfold countDown
    simp only
    have g : P { s with run.delayLeft := s.run.delayLeft - 1 } := h.free hs rfl rfl rfl rfl rfl rfl
    split
    · exact h.changeRun _ _ _ g
    · exact g
  · split
    · unfold acceptRunning
      simp only
      split
      · exact h.stopEvent _ _ (h.acceptCycle s hs)
      · exact h.acceptCycle s hs
    · exact miss
  · split
    · exact hs
    · split
      · exact h.acceptCycle _ (h.free hs rfl rfl rfl rfl rfl rfl)
      · exact miss
  · exact miss

theorem pacerExpiry (h : KeptByBlocks P) (s : State) (hs : P s) : P (pacerExpiry s) := by
  unfold Machine.pacerExpiry
  split
  · exact h.cycleSource _ (h.free hs rfl rfl rfl rfl rfl rfl)
  · exact hs

theorem encoderEdge (h : KeptByBlocks P) (s : State) (hs : P s) : P (encoderEdge s) := by
  unfold Machine.encoderEdge
  split
  · split
    · exact h.cycleSource _ (h.free hs rfl rfl rfl rfl rfl rfl)
    · exact h.free hs rfl rfl rfl rfl rfl rfl
  · exact hs

theorem trigCycle (h : KeptByBlocks P) (s : State) (hs : P s) : P (trigCycle s) := by
  unfold Machine.trigCycle
  split
  · exact h.cycleSource s hs
  · exact hs

theorem trigStop (h : KeptByBlocks P) (s : State) (hs : P s) : P (trigStop s) := by
  unfold Machine.trigStop
  split
  · exact h.stopEvent _ s hs
  · exact hs

theorem trigOperate (h : KeptByBlocks P) (s : State) (hs : P s) : P (trigOperate s) := by
  have g := h.trigStop _ (h.trigCycle s hs)
  unfold Machine.trigOperate
  split
  · exact hs
  · unfold trigArmed
    split
    · exact hs
    · exact h.startEvent s hs
    · exact h.startEvent s hs
  · exact g
  · exact g
  · exact h.trigCycle s hs
  · split
    · exact h.resume s hs
    · exact g

theorem changeSupply (h : KeptByBlocks P) (m : SupplyMode) (c : SupplyCause) (s : State) (hs : P s) :
    P (changeSupply m c s) :=
  h.raise _ _ _ (h.free hs rfl rfl rfl rfl rfl rfl)

theorem wakeUp (h : KeptByBlocks P) (c : SupplyCause) (s : State) (hs : P s) : P (wakeUp c s) :=
  h.changeSupply _ _ _ (h.free hs rfl rfl rfl rfl rfl rfl)

theorem enterStandby (h : KeptByBlocks P) (s : State) (hs : P s) : P (enterStandby s) :=
  h.changeSupply _ _ _ (h.free hs rfl rfl rfl rfl rfl rfl)

theorem trigActiveEdge (h : KeptByBlocks P) (s : State) (hs : P s) : P (trigActiveEdge s) := by
  have g : P (setTrig true s) := h.free hs rfl rfl rfl rfl rfl rfl
  unfold Machine.trigActiveEdge
  simp only
  split
  · split
    · exact h.wakeUp _ _ g
    · exact g
  · exact g
  · exact h.trigOperate _ g

theorem trigInactiveEdge (h : KeptByBlocks P) (s : State) (hs : P s) : P (trigInactiveEdge s) := by
  have g : P (setTrig false s) := h.free hs rfl rfl rfl rfl rfl rfl
  unfold Machine.trigInactiveEdge
  simp only
  split
  · unfold gateStop
    split
    · exact h.stopEvent _ _ g
    · exact h.stopEvent _ _ g
    all_goals exact g
  · exact g

theorem changeSync (h : KeptByBlocks P) (b : Bool) (s : State) (hs : P s) : P (changeSync b s) :=
  h.raise _ _ _ (h.free hs rfl rfl rfl rfl rfl rfl)

theorem syncEdge (h : KeptByBlocks P) (d : Polarity) (s : State) (hs : P s) : P (syncEdge d s) := by
  have g : P (restartWatch s) := by
    unfold restartWatch
    simp only
    split
    · exact h.free hs rfl rfl rfl rfl rfl rfl
    · exact h.changeSync _ _ (h.free hs rfl rfl rfl rfl rfl rfl)
  unfold Machine.syncEdge
  split
  · unfold releaseByEdge
    split
    · split
      · exact h.free g rfl rfl rfl rfl rfl rfl
      · exact h.cycleBegin _ (h.free g rfl rfl rfl rfl rfl rfl)
    · exact g
    · exact g
  · exact hs

theorem watchExpiry (h : KeptByBlocks P) (s : State) (hs : P s) : P (watchExpiry s) := by
  unfold Machine.watchExpiry
  split
  · have g : P (Machine.changeSync false { s with lock.watch := none }) :=
      h.changeSync _ _ (h.free hs rfl rfl rfl rfl rfl rfl)
    unfold releaseUnlocked
    split
    · exact g
    · exact h.cycleBegin _ (h.free g rfl rfl rfl rfl rfl rfl)
    · exact h.cycleBegin _ (h.free g rfl rfl rfl rfl rfl rfl)
  · exact hs

theorem phaseDelayEnd (h : KeptByBlocks P) (s : State) (hs : P s) : P (phaseDelayEnd s) := by
  unfold Machine.phaseDelayEnd
  split
  · exact h.cycleBegin _ (h.free hs rfl rfl rfl rfl rfl rfl)
  · exact hs
  · exact hs

theorem settleExpiry (h : KeptByBlocks P) (s : State) (hs : P s) : P (settleExpiry s) := by
  unfold Machine.settleExpiry
  split
  · exact h.changeSupply _ _ _ (h.free hs rfl rfl rfl rfl rfl rfl)
  · exact hs

theorem faultArrival (h : KeptByBlocks P) (l : Light) (s : State) (hs : P s) : P (faultArrival l s) := by
  have g : P (setFaultLine l true s) := h.free hs rfl rfl rfl rfl rfl rfl
  unfold Machine.faultArrival
  simp only
  split
  · exact g
  · have g1 := h.setFaulted l _ g
    have g2 : P (cutIfOn l (Machine.setFaulted l (setFaultLine l true s))) := by
      unfold cutIfOn
      split
      · exact h.free (h.lightOff l _ g1) rfl rfl rfl rfl rfl rfl
      · exact g1
    unfold latchFault
    simp only
    split
    · exact h.stopEvent _ _ (h.raise _ _ _ g2)
    · exact h.raise _ _ _ g2

theorem runReset (h : KeptByBlocks P) (s : State) (hs : P s) : P (runReset s) := by
  have g1 : P (Machine.goIdle .reset (stopRun (Machine.stopSequencer s))) :=
    h.goIdle _ _ (h.free (h.stopSequencer s hs) rfl rfl rfl rfl rfl rfl)
  unfold Machine.runReset clearRunning
  generalize Machine.goIdle .reset (stopRun (Machine.stopSequencer s)) = t at g1
  have g2 := h.clearSense _ (h.resetRegs _ g1)
  have g3 := h.resetStage _ g2
  have g4 := h.found _ (h.shrink [] _ (Nat.zero_le _) g3)
  exact h.free g4 rfl rfl rfl rfl rfl rfl

theorem haltRun (h : KeptByBlocks P) (s : State) (hs : P s) : P (haltRun s) := by
  unfold Machine.haltRun
  split
  · exact hs
  · exact h.changeRun _ _ _ hs
  · exact h.stopEvent _ _ hs
  · exact h.stopEvent _ _ hs
  · exact h.stopEvent _ _ hs
  · exact hs

theorem startByState (h : KeptByBlocks P) {s t : State} (ht : startByState s = some t) (hs : P s) : P t := by
  unfold Machine.startByState at ht
  split at ht
  all_goals try (split at ht)
  all_goals first
    | (cases ht; done)
    | (cases ht; exact h.startEvent s hs)
    | (cases ht; exact h.armRun s hs)
    | (cases ht; exact hs)
    | (cases ht; exact h.resume s hs)

theorem abortRun (h : KeptByBlocks P) (s : State) (hs : P s) : P (abortRun s) :=
  h.goIdle _ _ (h.free (h.abortSequencer s hs) rfl rfl rfl rfl rfl rfl)

/-- Executing a command keeps what the blocks' updates keep. -/
theorem command (h : KeptByBlocks P) (c : Command) (p : List Byte) (s : State) (hs : P s) :
    P (executeDirect c p s).state := by
  have hf : ∀ {t : State}, t.table = s.table → t.regs = s.regs → t.lights = s.lights →
      t.stage = s.stage → t.results = s.results → t.sense = s.sense → P t := h.free hs
  unfold executeDirect
  split
  · unfold takeIdentify; split <;> exact hs
  · unfold takeStatus; split <;> exact hs
  · unfold takeReportMask; split
    · exact hs
    · exact hf rfl rfl rfl rfl rfl rfl
  · unfold takeReset; split
    · exact hs
    · exact h.runReset s hs
    · exact hf rfl rfl rfl rfl rfl rfl
  · unfold takeShotPut; split
    · exact hs
    · next hp =>
      split
      · split
        · exact hs
        · next ht => exact h.putShot _ _ s _ (parseShotPut_ok hp).2 ht (parseShotPut_ok hp).1 hs
      · exact hs
  · unfold takeShotGet; split
    · exact hs
    · split <;> exact hs
  · unfold takeSeqSelect; split
    · exact hs
    · split
      · split
        · exact hs
        · next ht => exact h.putSeqStart _ s _ ht hs
      · exact hs
  · unfold takeTableClear; split
    · exact hs
    · split
      · exact h.tableClear s hs
      · exact hs
  · unfold takeFire; split
    · exact hs
    · split
      · exact hs
      · split
        · split
          · exact h.startShot _ _ _ (hf rfl rfl rfl rfl rfl rfl)
          · exact hs
        · exact hs
  · unfold takeSenseSet; split
    · exact hs
    · next hp => exact h.senseSet _ s (parseSenseSet_ok hp) hs
  · unfold takeSenseGet; split <;> exact hs
  · unfold takeRunSetup; split
    · exact hs
    · split
      · exact hf rfl rfl rfl rfl rfl rfl
      · exact hs
  · unfold takeStart; split
    · exact hs
    · split
      · exact hs
      · split
        · exact hs
        · split
          · exact hs
          · split
            · exact hs
            · next ht => exact h.startByState ht hs
  · unfold takeCycle; split
    · exact hs
    · split
      · exact h.cycleSource s hs
      · exact hs
  · unfold takeHalt; split
    · exact hs
    · exact h.haltRun s hs
  · unfold takeAbort; split
    · exact hs
    · split
      · exact h.abortRun s hs
      · exact hs
  · unfold takeLockSetup; split
    · exact hs
    · split
      · exact hs
      · simp only [accept]
        unfold putLockSetup
        simp only
        split <;> exact hf rfl rfl rfl rfl rfl rfl
  · unfold takeRegMode; split
    · exact hs
    · exact h.regMode _ _ s hs
  · unfold takeRegForce; split
    · exact hs
    · split
      · exact hs
      · next ht => exact h.regForce _ _ _ s _ ht hs
  · unfold takeRegBands; split
    · exact hs
    · next hp => exact h.regBands _ _ s (parseRegBands_ok hp) hs
  · unfold takeRegLimits; split
    · exact hs
    · next hp => exact h.regLimits _ _ s (parseRegLimits_ok hp) hs
  · unfold takeRegGet; split <;> exact hs
  · unfold takeLightDuty; split
    · exact hs
    · next hp =>
      obtain ⟨h1, h2, h3⟩ := parseLightDuty_ok hp
      exact h.lightDuty _ _ _ s h1 h2 h3 hs
  · unfold takeLightGet; split <;> exact hs
  · unfold takeFaultClear; split
    · exact hs
    · split
      · exact hs
      · exact h.clearFault _ s hs
  · exact h.stageOpen p s hs
  · exact h.stageClose p s hs
  · unfold takeStageLaunch; split
    · exact hs
    · simp only
      split
      · next hb =>
        split
        · exact h.applyBank _ s hs
        · exact h.pend _ s hb.1 hb.2 hs
      · exact hs
  · exact h.stageDrop p s hs
  · exact h.stageLayout p s hs
  · exact h.stageAlternate p s hs
  · unfold takeStageGet; split <;> exact hs
  · unfold takeResultRead; split
    · exact hs
    · exact h.shrink _ s (by simp) hs
  · unfold takeResultFlush; split
    · exact hs
    · exact h.shrink [] s (Nat.zero_le _) hs
  · unfold takeResultThreshold; split
    · exact hs
    · next hp => exact h.threshold _ s (parseThreshold_ok hp).1 (parseThreshold_ok hp).2 hs
  · unfold takeStandby; split
    · exact hs
    · split
      · split
        · exact h.enterStandby s hs
        · exact hs
      · exact h.enterStandby s hs
      · exact hs
  · unfold takeWake; split
    · exact hs
    · split
      · exact h.wakeUp _ s hs
      · exact hs
      · exact hs
  · unfold takeSupplySetup; split
    · exact hs
    · exact hf rfl rfl rfl rfl rfl rfl

/-- What the blocks' updates keep, the blocks' effects keep. -/
theorem kept (h : KeptByBlocks P) : KeptBy P where
  link _ _ hs := h.free hs rfl rfl rfl rfl rfl rfl
  pins _ _ hs := h.free hs rfl rfl rfl rfl rfl rfl
  resetCause _ _ hs := h.free hs rfl rfl rfl rfl rfl rfl
  pending _ _ hs := h.free hs rfl rfl rfl rfl rfl rfl
  command := h.command
  capture := h.capture
  pacerExpiry := h.pacerExpiry
  encoderEdge := h.encoderEdge
  trigActiveEdge := h.trigActiveEdge
  trigInactiveEdge := h.trigInactiveEdge
  syncEdge := h.syncEdge
  watchExpiry := h.watchExpiry
  phaseDelayEnd := h.phaseDelayEnd
  flashStart := h.flashStart
  firingEnd l s hs := h.lightOff l s hs
  flashEnd := h.flashEnd
  tailEnd := h.tailEnd
  gapEnd := h.gapEnd
  dutyTimerExpiry := h.cool
  faultArrival := h.faultArrival
  settleExpiry := h.settleExpiry
  fullReset c s _ := h.fullReset c s
  startLights := h.startLights
  passTime := h.passTime

end KeptByBlocks

end Sys2Proof.Machine
end

