-- ==== Sys2Proof/Laws/Staging.lean ====
section
/-!
SUPPORT. The banks due at a cycle begin: what a bank's application reads of the Stage Unit, what the applications
keep, and what a cycle begin leaves to the run.
-/

namespace Sys2Proof.Machine

/-! ### An application reads of the Stage Unit only the records of its bank -/

/-- What a record does, it does under any Stage Unit (R136). -/
theorem applyRecord_stage (r : StageRecord) (u : StageUnit) (s : State) :
    applyRecord r { s with stage := u } = (applyRecord r s).map fun t => { t with stage := u } := by
  unfold applyRecord putShot putSeqStart putRegMode putRegForce
  repeat' split
  all_goals rfl

theorem applyNext_stage (r : StageRecord) (u : StageUnit) (a : Application) :
    applyNext { a with state := { a.state with stage := u } } r =
      { applyNext a r with state := { (applyNext a r).state with stage := u } } := by
  unfold applyNext
  simp only [applyRecord_stage]
  cases applyRecord r a.state <;> rfl

theorem foldl_applyNext_stage (u : StageUnit) : ∀ (rs : List StageRecord) (a : Application),
    rs.foldl applyNext { a with state := { a.state with stage := u } } =
      { rs.foldl applyNext a with state := { (rs.foldl applyNext a).state with stage := u } }
  | [], _ => rfl
  | r :: rs, a => by
    simp only [List.foldl_cons, applyNext_stage]
    exact foldl_applyNext_stage u rs (applyNext a r)

/-- Raising a report does not read the Stage Unit. -/
theorem raise_under_stage (k : ReportKind) (p : List Byte) (u : StageUnit) (s : State) :
    raise k p { s with stage := u } = { raise k p s with stage := u } := by
  unfold raise
  repeat' split
  all_goals rfl

/-- An application under another Stage Unit that holds the same records in its bank (R136). -/
theorem applyBank_stage {b : Fin 4} {u : StageUnit} {s : State}
    (h : (u.banks.get b).records = (s.stage.banks.get b).records) :
    (applyBank b { s with stage := u }).state = { (applyBank b s).state with stage := u } := by
  simp only [applyBank, applyRecords, h]
  rw [foldl_applyNext_stage u _ ⟨s, 0, 0⟩]
  exact raise_under_stage _ _ _ _

/-! ### What the banks due at a cycle begin keep -/

/-- What every application and every update of the Stage Unit keep, a cycle begin's applications keep (R138). -/
theorem applyDueBanks_keep {P : State → Prop} (hb : ∀ b s, P s → P (applyBank b s).state)
    (hu : ∀ u s, P s → P { s with stage := u }) {s : State} (hs : P s) : P (applyDueBanks s) := by
  have pending : ∀ b t, P t → P (applyPending b t) := by
    intro b t ht
    unfold applyPending
    split
    · exact hu _ _ (hb b t ht)
    · exact ht
  refine pending 3 _ (pending 2 _ (pending 1 _ (pending 0 _ ?_)))
  unfold alternationStep
  split
  · exact hs
  · simp only
    split
    · exact hu _ _ (hb _ s hs)
    · exact hu _ _ hs

@[simp] theorem applyDueBanks_run (s : State) : (applyDueBanks s).run = s.run :=
  applyDueBanks_keep (P := fun t => t.run = s.run) (fun b t h => (applyBank_only b t).run.trans h) (fun _ _ h => h) rfl

@[simp] theorem applyDueBanks_seq (s : State) : (applyDueBanks s).seq = s.seq :=
  applyDueBanks_keep (P := fun t => t.seq = s.seq) (fun b t h => (applyBank_only b t).seq.trans h) (fun _ _ h => h) rfl

/-! ### What a cycle begin leaves to the run -/

@[simp] theorem flashStart_run (s : State) : (flashStart s).run = s.run := by
  unfold flashStart
  split <;> (try split) <;> rfl

@[simp] theorem startShot_run (i : Nat) (test : Bool) (s : State) : (startShot i test s).run = s.run := by
  unfold startShot
  split
  · rfl
  · simp only
    split
    · rw [flashStart_run]; rfl
    · rfl

/-- A cycle begin does not touch the Run Controller (R23). -/
@[simp] theorem cycleBegin_run (s : State) : (cycleBegin s).run = s.run := by
  simp [cycleBegin]

end Sys2Proof.Machine
end

