-- ==== Sys2Proof/Tests/Slice0.lean ====
section
/-!
SUPPORT. Tests. First the WellFormed smoke, then the worked examples of the spec on small states, then one witness
for the hypotheses of each obligation: concrete states and operands that meet them, at the boundaries of their
ranges. `witness_<Name>` belongs to Obligations.<Name>.
-/

namespace Sys2Proof.Tests

-- The kernel evaluations below run one after another: each thread has a stack of its own, and memory is bounded.
set_option Elab.async false

open Sys2Proof.Machine Sys2Proof.Safety

/-! ### Small states -/

/-- The part after reset with its supply in OPERATE. -/
def operate : State := { State.reset with supply := ⟨.operate, 20, false, none, true⟩ }

/-- Entry 0 of section 2.11. -/
def entryA : ShotEntry :=
  { lights := 0x01#8, cameras := 0x1#4, lead := 100, window := 500, tail := 50, gap := 1000, aux := 0#8,
    regulate := some 0, fixed := none, skip := false, pause := false, endFlag := false, baseline := false }

/-- Entry 1 of section 2.11: lead and tail 0, SKIP and END. -/
def entryB : ShotEntry :=
  { lights := 0x02#8, cameras := 0x1#4, lead := 0, window := 1, tail := 0, gap := 200, aux := 0#8,
    regulate := none, fixed := none, skip := true, pause := false, endFlag := true, baseline := false }

/-- OPERATE with the two entries of section 2.11. -/
def loaded : State := { operate with table := ⟨[entryA, entryB], 0⟩ }

/-- A run in the state given, under the pacer. -/
def inRun (r : RunState) : State := { loaded with run.state := r, run.pacer := some 10000 }

/-- A shot of entry `e` in the phase given, in a running cycle. -/
def shotIn (e : ShotEntry) (p : Phase) : State :=
  { inRun .running with seq.state := .shooting, seq.shot := some { leadShot 0 e false with phase := p } }

/-- One bank in the state given. -/
def bank0 (b : BankState) (s : State) : State := { s with stage.banks := s.stage.banks.set 0 ⟨b, []⟩ }

/-- The executor held by a RESET FULL. -/
def held (s : State) : State := { s with link.executor := .holding }

/-- The outcome is the next state given. -/
def nextIs (o : Host.Outcome State Fault Refusal) (t : State) : Bool :=
  match o with
  | .next u => u == t
  | _ => false

/-- A frame of the code given with no payload. -/
def bare (code : Byte) : Frame := ⟨code, 5#8, []⟩

/-! ### Well-formedness: each check refuses an ill-formed term -/

theorem test_wf_payload_fits : Instr.wellFormed (.status 0#8 (List.replicate 251 0#8)) = false := by
  decide +kernel

theorem test_wf_payload_of_250 : Instr.wellFormed (.status 0#8 (List.replicate 250 0#8)) = true := by
  decide +kernel

theorem test_wf_unknown_code_names_no_command : Instr.wellFormed (.unknownCode 0x02#8 0#8 []) = false := by
  decide +kernel

theorem test_wf_unknown_payload_fits :
    Instr.wellFormed (.unknownCode 0x05#8 0#8 (List.replicate 251 0#8)) = false := by decide +kernel

theorem test_wf_unknown_code : Instr.wellFormed (.unknownCode 0x70#8 0#8 [1#8]) = true := by decide +kernel

theorem test_wf_frame_without_start : Instr.wellFormed (.frameReceived [0xA6#8, 2#8, 2#8, 5#8, 0xE7#8]) = false := by
  decide +kernel

theorem test_wf_frame_too_short : Instr.wellFormed (.frameReceived [0xA7#8, 2#8, 2#8, 5#8]) = false := by
  decide +kernel

theorem test_wf_frame_goes_on_after_bad_len : Instr.wellFormed (.frameReceived [0xA7#8, 1#8, 0#8]) = false := by
  decide +kernel

theorem test_wf_frame : Instr.wellFormed (.frameReceived [0xA7#8, 2#8, 2#8, 5#8, 0xE7#8]) = true := by
  decide +kernel

/-! ### The spec's worked examples -/

/-- Section 11.1.1: the frame of STATUS with tag 5. -/
theorem test_status_frame : frameBytes ⟨0x02#8, 0x05#8, []⟩ = [0xA7#8, 0x02#8, 0x02#8, 0x05#8, 0xE7#8] := by
  decide +kernel

/-- Section 11.1.1: received after reset, it is answered; the reply waits behind READY. -/
theorem test_status_answered :
    nextIs (exec (.frameReceived [0xA7#8, 0x02#8, 0x02#8, 0x05#8, 0xE7#8]) State.reset)
      { State.reset with link.replies := [⟨0x82#8, 0x05#8, 0#8 :: statusBytes State.reset⟩] } := by
  decide +kernel

/-- Section 1.4.1: the last entries of its table of ten, with END at 3 and 7. -/
theorem test_sequence_bounds :
    let plain : ShotEntry := { entryB with endFlag := false }
    let t (start : Nat) : ShotTable :=
      ⟨[plain, plain, plain, entryB, plain, plain, plain, entryB, plain, plain], start⟩
    isLastEntry (t 0) 3 entryB = true ∧ isLastEntry (t 2) 2 plain = false ∧ isLastEntry (t 3) 3 entryB = true ∧
      isLastEntry (t 4) 7 entryB = true ∧ isLastEntry (t 8) 8 plain = false ∧ isLastEntry (t 9) 9 plain = true := by
  decide +kernel

/-- The two ends of a sequence: END counts at and above `seq_start` alone, and entry `count` − 1 always ends it. -/
theorem test_last_entry_bounds :
    isLastEntry ⟨[entryB, entryB, entryA], 1⟩ 0 entryB = false ∧ isLastEntry ⟨[entryB, entryB, entryA], 1⟩ 1 entryB = true ∧
      isLastEntry ⟨[entryB, entryB, entryA], 1⟩ 2 entryA = true := by decide +kernel

/-- Section 11.5.3: SHORT, UNLOCKED and CLIPPED; ABORTED and LOST. -/
theorem test_cycle_flags :
    cycleFlagsByte ⟨true, false, true, false, true⟩ = 0x15#8 ∧ cycleFlagsByte ⟨false, true, false, true, false⟩ = 0x0A#8 := by
  decide +kernel

/-- Section 2.11 at time 100: L0 admitted whole, its heat raised by 150, the flash 500 µs long. -/
theorem test_flash_start_example :
    let s : State := { shotIn entryA .lead with
      regs := (shotIn entryA .lead).regs.set 0 { Regulator.reset with duration := 300, current := 512 } }
    (flashStart s).lights.channels.get 0 = { LightChannel.reset with heat := 150, firing := some ⟨512, 300⟩ } ∧
      (flashStart s).seq.shot.map Shot.flashLength = some 500 := by decide +kernel

/-- Section 6.9, firing 16: clipped to 400 µs, and excluded with dur_min 500. -/
theorem test_clip_example :
    let c : LightChannel := { LightChannel.reset with heat := 4800, heatLimit := 5000, coolRate := 20 }
    judgeOffer c 1000 512 100 = .clipped 400 ∧ judgeOffer c 1000 512 500 = .noRoom := by decide +kernel

/-- R28: 20 µA for 1000 µs is 65535, and the last of those microseconds and one more bring no more. -/
theorem test_integration_scale :
    let s : State := { shotIn entryA .flash with
      pins.photocurrents := ⟨20000, 10000, 0, 1⟩
      sense := { SenseFrontEnd.reset with integrating := true, integrators := ⟨999 * 20000, 999 * 10000, 0, 0⟩ } }
    (passTime (passTime s)).sense.integrators = ⟨20000000, 10010000, 0, 2⟩ ∧
    (flashEnd ⟨0, 0, 306, 303⟩ 0#4 (passTime s)).sense.readings = ⟨65535, 32767, 1, 0⟩ := by decide +kernel

/-- Section 5.6.1: the figure 13,000. -/
theorem test_figure_example :
    figureOf ⟨4, 4, 0, 8⟩ ⟨30000, 26000, 50000, 1000⟩ ⟨2000, 2000, 0, 1500⟩ = some 13000 := by decide +kernel

/-- R93's table: the multiplier with ratio 4. -/
theorem test_multiplier_table :
    let r : Regulator := { Regulator.reset with limits := { Regulator.reset.limits with ratio := 4 } }
    multiplier r 26000 = 6 ∧ multiplier r 20000 = 12 ∧ multiplier r 12000 = 16 ∧ multiplier r 41000 = 9 := by
  decide +kernel

/-- The seven closes of section 5.6.2. -/
theorem test_fixed_stepping_example :
    let start : Regulator := { Regulator.reset with
      mode := .auto, state := .converging, limits := { Regulator.reset.limits with durMin := 10 } }
    let close (r : Regulator) (f : Nat) : Regulator := closeRegulator { r with sum := f, count := 1 }
    let after (fs : List Nat) : Nat × Nat × RegState :=
      let r := fs.foldl close start
      (r.duration, r.current, r.state)
    after [6000] = (200, 256, .converging) ∧ after [6000, 14000] = (210, 256, .converging) ∧
      after [6000, 14000, 29000, 38500] = (210, 256, .stable) ∧
      after [6000, 14000, 29000, 38500, 41000, 60000, 37000] = (210, 104, .converging) := by decide +kernel

/-- R106's example: duration 530 and current 40 moved to 500 and 64. -/
theorem test_limits_example :
    let m : RegLimits := { durMin := 100, durCeiling := 1000, curFloor := 64, curCeiling := 800, durStep := 10,
                           curStep := 16, ratio := 0, bandStep := 50 }
    let r := withLimits m { Regulator.reset with duration := 530, current := 40 }
    r.duration = 500 ∧ r.current = 64 := by decide +kernel

/-- Section 9.7: the fifth reply fills the queue, the next command waits. -/
theorem test_burst_waits :
    let full : State := { State.reset with link.replies := List.replicate 4 (bare 0x9A#8) }
    nextIs (exec (.senseGet 5#8 []) full) { full with link.commands := [bare 0x1A#8] } := by decide +kernel

/-- Section 3.12: START with the gate low arms. -/
theorem test_gate_arms :
    (startByState { loaded with run.setup := { RunSetup.reset with startSource := .trigGate } }).map
      (fun t => t.run.state) = some .armed := by decide +kernel

/-- Section 3.12: the gate's rise with delay 2 starts into DELAYING. -/
theorem test_gate_starts :
    let s : State := { loaded with
      run.state := .armed, run.setup := { RunSetup.reset with startSource := .trigGate, delay := 2 } }
    (trigActiveEdge s).run.state = .delaying ∧ (trigActiveEdge s).run.delayLeft = 2 := by decide +kernel

/-- A SEQ_SELECT record of the start given. -/
def selects (start : Byte) : StageRecord := ⟨0x12#8, [start]⟩

/-- B0 and B3 PENDING, B0 selecting entry 1 and an entry that is not defined, B3 as given, in RUNNING. -/
def twoPending (b3 : List StageRecord) : State :=
  { inRun .running with
    stage.banks := ⟨⟨.pending, [selects 1#8, selects 2#8]⟩, ⟨.empty, []⟩, ⟨.empty, []⟩, ⟨.pending, b3⟩⟩ }

/-- R136: the second record fails at apply and is skipped, the first has acted. -/
theorem test_application_counts :
    (applyBank 0 (twoPending [])).applied = 1 ∧ (applyBank 0 (twoPending [])).skipped = 1 ∧
      (applyBank 0 (twoPending [])).state.table.seqStart = 1 := by decide +kernel

/-- R138: B3 is applied after B0, and both are READY again. -/
theorem test_due_banks_in_order :
    (applyDueBanks (twoPending [selects 0#8])).table.seqStart = 0 ∧
      (applyDueBanks (twoPending [selects 0#8])).stage.banks.map Bank.state = ⟨.ready, .empty, .empty, .ready⟩ := by
  decide +kernel

/-- R23, R138: the cycle begins at the `seq_start` that its banks leave. -/
theorem test_cycle_begin_applies_banks :
    (cycleBegin (twoPending [])).seq.cursor = 1 ∧ (cycleBegin (twoPending [])).seq.shot.map Shot.index = some 1 ∧
      (cycleBegin (twoPending [])).seq.cycleNumber = 1 := by decide +kernel

/-- R117, R125: a fault line that goes active in reset is found active at completion. -/
theorem test_line_in_reset :
    nextIs (exec (.faultArrival 7) (fullReset .power State.reset))
      { fullReset .power State.reset with pins.faultLines := 0x80#8 } := by decide +kernel

/-- R173, R171: the RUN_STATE report of a RESET RUN that is being sent goes on when RESET FULL is taken, and the reply of
RESET FULL waits behind it. -/
theorem test_report_in_transmission_goes_on :
    let report : List Byte := frameBytes ⟨reportCode .runState, 0#8, [0#8, 3#8, 9#8]⟩
    let s : State := { State.reset with link.sending := some report }
    nextIs (exec (.resetFull 5#8) s)
      (held { s with link.replies := [⟨0x84#8, 5#8, [0#8]⟩] }) := by decide +kernel

/-- An idle step takes 1 µs from the duty timer (log entry 4). -/
theorem test_idle_step : nextIs (step State.reset) { State.reset with lights.dutyTimer := some 999 } := by
  decide +kernel

/-- The front command is taken and leaves the queue. -/
theorem test_step_takes_front :
    nextIs (step { State.reset with pending := [.trigActiveEdge, .pacerExpiry] })
      { State.reset with pins.trigHigh := true, pending := [.pacerExpiry] } := by decide +kernel

/-- No word of the table spells a command. -/
theorem test_no_word : decodeTableWord 8 1 = none := rfl

/-! ### Witnesses -/

theorem witness_IdleStepPassesTime :
    State.reset.pending = [] ∧ State.reset.sense.integrating = false ∧
    (let s : State := { shotIn entryA .flash with sense.integrating := true }
     s.pending = [] ∧ s.sense.integrating = true) := by decide +kernel

theorem witness_ReportsRaised :
    State.reset.link.mask.getLsbD (reportBit .cycleDone) = false ∧
    State.reset.link.mask.getLsbD (reportBit .runState) = true ∧
    (List.replicate 15 (bare 0xF1#8)).length < 16 ∧ 16 ≤ (List.replicate 16 (bare 0xF1#8)).length := by decide +kernel

theorem witness_CommandFrameArrives :
    Instr.hostFrame (.senseSet 5#8 (List.replicate 250 0#8)) = some ⟨0x19#8, 5#8, List.replicate 250 0#8⟩ ∧
    Ready State.reset ∧
    (let s := held { State.reset with link.commands := List.replicate 3 (bare 0x01#8) }
     s.resetCause = none ∧ s.link.sending ≠ none ∧ s.link.executor = .holding ∧ s.link.commands.length < 4) ∧
    (let s : State := { State.reset with link.commands := List.replicate 4 (bare 0x01#8),
                                         link.replies := List.replicate 4 (bare 0x81#8) }
     s.resetCause = none ∧ s.link.sending ≠ none ∧ 4 ≤ s.link.replies.length ∧ 4 ≤ s.link.commands.length) ∧
    (fullReset .pin State.reset).resetCause ≠ none := by decide +kernel

theorem witness_OneReplyPerTaking :
    Instr.hostFrame (.status 5#8 []) = some (bare 0x02#8) ∧ Ready State.reset ∧ State.reset.link.sending ≠ none ∧
    (execute ⟨0x18#8, 5#8, [0#8]⟩ State.reset).reply = [6#8] := by decide +kernel

theorem witness_CodeAndLengthChecked :
    Instr.hostFrame (.unknownCode 0x7F#8 5#8 [1#8]) = some ⟨0x7F#8, 5#8, [1#8]⟩ ∧
    commandOfCode 0x7F#8 = none ∧ commandOfCode 0x80#8 = none ∧ Ready State.reset ∧
    commandOfCode 0x02#8 = some .status ∧ [1#8].length ≠ payloadLength .status := by decide +kernel

theorem witness_FrameSentGoesOn :
    (let s : State := { State.reset with link.sending := none }
     Resting s ∧ s.resetCause = none ∧ s.link.sending = none) ∧
    (let s : State := { State.reset with link.replies := [bare 0x81#8], link.reports := [bare 0xF1#8] }
     s.resetCause = none ∧ s.link.sending ≠ none ∧ s.link.executor = .idle ∧ s.link.commands = [] ∧
     s.link.replies = [bare 0x81#8]) ∧
    (let s : State := { State.reset with link.reports := [bare 0xF1#8] }
     s.link.sending ≠ none ∧ s.link.replies = [] ∧ s.link.reports = [bare 0xF1#8]) ∧
    (State.reset.link.sending ≠ none ∧ State.reset.link.replies = [] ∧ State.reset.link.reports = []) ∧
    (let s : State := { State.reset with link.replies := List.replicate 4 (bare 0x81#8),
                                         link.commands := [bare 0x01#8] }
     s.link.sending ≠ none ∧ s.link.executor = .idle ∧
     s.link.replies = bare 0x81#8 :: List.replicate 3 (bare 0x81#8) ∧ s.link.commands = [bare 0x01#8]) ∧
    (let s := held { State.reset with link.replies := [bare 0x84#8] }
     s.link.sending ≠ none ∧ s.link.executor = .holding ∧ s.link.replies = [bare 0x84#8]) := by decide +kernel

theorem witness_ByteReceived :
    (let s : State := { State.reset with link.waitIdle := true }
     Resting s ∧ s.link.waitIdle = true) ∧
    (Resting State.reset ∧ State.reset.link.waitIdle = false ∧ State.reset.link.receiver = .hunting ∧
     0xA6#8 ≠ 0xA7#8) ∧
    (let s : State := { State.reset with link.receiver := .assembling [], link.gapTimer := some 2000 }
     Resting s ∧ s.link.receiver = .assembling [] ∧ (1#8).toNat < 2 ∧ 252 < (253#8).toNat ∧
     2 ≤ (2#8).toNat ∧ (252#8).toNat ≤ 252) ∧
    (let s : State := { State.reset with link.receiver := .assembling [2#8, 2#8, 5#8] }
     Ready s ∧ Resting s ∧ [2#8].length < (2#8).toNat ∧ [2#8, 5#8].length = (2#8).toNat ∧
     0xE7#8 = crc8 [2#8, 2#8, 5#8] ∧ 0xE6#8 ≠ crc8 [2#8, 2#8, 5#8]) ∧
    (let s := held { State.reset with link.receiver := .assembling [2#8, 2#8, 5#8],
                                      link.commands := List.replicate 4 (bare 0x01#8) }
     Resting s ∧ 4 ≤ s.link.commands.length) := by
  refine ⟨?_, ?_, ?_, ?_, ?_⟩ <;> decide +kernel

theorem witness_FrameReceivedIsItsCommand :
    Instr.hostFrame (.status 5#8 []) = some (bare 0x02#8) ∧ Resting State.reset ∧ Ready State.reset ∧
    State.reset.link.waitIdle = false ∧ State.reset.link.receiver = .hunting ∧
    State.reset.link.gapTimer = none ∧ 0#8 ≠ crc8 (frameBody (bare 0x02#8)) := by decide +kernel

theorem witness_LineErrors :
    (Resting State.reset ∧ State.reset.link.waitIdle = false ∧ State.reset.link.gapTimer = none) ∧
    (let s : State := { State.reset with link.waitIdle := true }
     Resting s ∧ s.link.waitIdle = true) ∧
    (let s : State := { State.reset with link.receiver := .assembling [], link.gapTimer := some 0 }
     Resting s ∧ s.link.gapTimer ≠ none) := by decide +kernel

theorem witness_IdentifyAnswers : [0#8] ≠ ([] : List Byte) ∧ Ready (bank0 .opened (inRun .running)) := by
  decide +kernel

theorem witness_StatusAnswers : Ready (bank0 .opened (inRun .running)) := by decide +kernel

theorem witness_SettingsStored :
    Ready State.reset ∧ NoOpen State.reset ∧ (127#8).toNat < 128 ∧ 128 ≤ (128#8).toNat ∧
    (∀ i, (Quad.get ⟨0, 65535, 1, 2⟩ i : Nat) ≤ 65535) ∧
    8 ≤ (8#8).toNat ∧ (List.replicate 6 0#8).length = 6 := by decide +kernel

theorem witness_RunResetEffect : Ready (inRun .running) ∧ (inRun .running).run.state ≠ .idle := by decide +kernel

theorem witness_FullResetAfterReply :
    (State.reset.resetCause = none ∧ Ready State.reset ∧ State.reset.link.executor = .idle ∧
     Resting State.reset) ∧
    (let s := held State.reset
     s.resetCause = none ∧ s.link.sending ≠ none ∧ s.link.executor = .holding ∧ s.link.replies = []) ∧
    (let s := held { State.reset with link.replies := [bare 0x84#8] }
     s.link.replies ≠ [] ∧ Resting s) := by decide +kernel

theorem witness_ResetCompletes :
    (let s := fullReset .pin State.reset
     s.resetCause = some .pin ∧ s.link = LinkPort.reset) ∧
    State.reset.resetCause = none ∧
    State.reset.pins = { trigHigh := false, faultLines := 0#8, photocurrents := ⟨0, 0, 0, 0⟩ } ∧ State.reset.pending = [] ∧
    nextIs (exec .powerOn State.reset) (fullReset .power State.reset) := by decide +kernel

theorem witness_InResetNothingActs :
    (fullReset .power State.reset).resetCause ≠ none ∧ Instr.gapEnd ≠ .powerOn ∧ Instr.gapEnd ≠ .rstnLow ∧
    Instr.gapEnd ≠ .resetCompletion ∧
    (let s : State := { fullReset .pin State.reset with run.setup.polarity := .falling }
     s.resetCause ≠ none ∧ s.run.setup.polarity ≠ .rising) := by decide +kernel

theorem witness_ShotPutDirect :
    Ready loaded ∧ NoOpen loaded ∧ entryValid entryA = true ∧ loaded.run.state = .idle ∧
    1 < loaded.table.count ∧ 2 = loaded.table.count ∧ loaded.table.count < 127 ∧
    (let s := inRun .delaying
     Ready s ∧ NoOpen s ∧ s.run.state ≠ .idle ∧ s.run.state ≠ .armed) ∧
    (List.replicate 19 0xFF#8).length = 19 ∧ entryOf (List.replicate 19 0xFF#8) = none := by decide +kernel

theorem witness_EntryRoundTrip :
    entryValid entryA = true ∧ entryValid { entryB with fixed := some ⟨1023, 20000⟩ } = true ∧
    (let bytes : List Byte := [0#8, 16#8] ++ List.replicate 17 0#8
     bytes.length = 19 ∧ 16 ≤ byteAt bytes 1) ∧
    (let bytes : List Byte := List.replicate 3 0#8 ++ [64#8, 8#8] ++ List.replicate 14 0#8
     bytes.length = 19 ∧ 64 ≤ byteAt bytes 3 ∧ 8 ≤ byteAt bytes 4) ∧
    (let bytes : List Byte := List.replicate 4 0#8 ++ [1#8] ++ List.replicate 13 0#8 ++ [1#8]
     bytes.length = 19 ∧ (bytes.getD 3 0#8).getLsbD 4 = false ∧ byteAt bytes 4 ≠ 0 ∧
     (bytes.getD 3 0#8).getLsbD 5 = false ∧ word16At bytes 17 ≠ 0) := by decide +kernel

theorem witness_ShotGetAnswers :
    Ready loaded ∧ loaded.table.entries[1]? = some entryB ∧ loaded.table.count ≤ 2 ∧ loaded.table.count ≤ 128 := by
  decide +kernel

theorem witness_SeqSelectAndTableClear :
    Ready loaded ∧ NoOpen loaded ∧ loaded.run.state = .idle ∧ loaded.seq.state ≠ .testing ∧
    1 < loaded.table.count ∧ loaded.table.count ≤ 127 ∧
    (let s := inRun .paused
     Ready s ∧ NoOpen s ∧ s.run.state ≠ .idle ∧ s.run.state ≠ .armed) ∧
    (let s := bank0 .opened loaded
     Ready s ∧ ¬NoOpen s ∧ s.run.state = .idle ∧ s.seq.state ≠ .testing) ∧
    (let s := bank0 .opened (inRun .running)
     Ready s ∧ ¬NoOpen s ∧ s.run.state ≠ .idle) := by decide +kernel

theorem witness_StageableCaptured :
    let s := bank0 .opened loaded
    Instr.hostFrame (.seqSelect 5#8 [127#8]) = some ⟨0x12#8, 5#8, [127#8]⟩ ∧
    commandOfCode 0x12#8 = some .seqSelect ∧ isStageable .seqSelect = true ∧ Ready s ∧ OneOpen s.stage ∧
    (s.stage.banks.get 0).state = .opened ∧ captureCheck .seqSelect [127#8] = none ∧
    captureCheck .seqSelect [128#8] = some .badValue ∧
    (s.stage.banks.get 0).records.length < bankCapacity s.stage.layout 0 ∧ bankCapacity ⟨0, 0, 40⟩ 0 ≤ 0 := by
  decide +kernel

theorem witness_CaptureChecks :
    isStageable .lightDuty = true ∧ payloadLength .lightDuty = 7 ∧
    (List.replicate 7 1#8).length = 7 := by decide +kernel

theorem witness_BanksOpenedAndDropped :
    (Ready loaded ∧ NoOpen loaded ∧ (loaded.stage.banks.get 0).state = .empty) ∧
    (let s := bank0 .opened loaded
     Ready s ∧ ¬NoOpen s ∧ (s.stage.banks.get 0).state = .opened) ∧
    (let s := bank0 .pending loaded
     Ready s ∧ (s.stage.banks.get 0).state = .pending) ∧ 4 ≤ (4#8).toNat := by decide +kernel

/-- The alternation of B0 and B1, each for one cycle begin. -/
def alternating : Alternation :=
  { a := 0, b := 1, periodA := 1, periodB := 1, repeats := false, dueB := false, remaining := 0 }

/-- B0 and B1 READY, alternating. -/
def rotating : State :=
  { loaded with stage.banks := ⟨⟨.ready, []⟩, ⟨.ready, []⟩, ⟨.empty, []⟩, ⟨.empty, []⟩⟩,
                stage.alternation := some alternating }

theorem witness_named : Named rotating.stage 0 ∧ Named rotating.stage 1 :=
  ⟨⟨alternating, rfl, .inl rfl⟩, ⟨alternating, rfl, .inr rfl⟩⟩

theorem witness_not_named : ¬Named (bank0 .ready loaded).stage 0 := by
  rintro ⟨r, h, _⟩; cases h

theorem witness_StageCloseEffect :
    (let s := bank0 .opened (inRun .running)
     OneOpen s.stage ∧ (s.stage.banks.get 0).state = .opened ∧ Ready s) ∧ NoOpen loaded := by decide +kernel

theorem witness_StageLaunchEffect :
    (let s := bank0 .ready loaded
     Ready s ∧ (s.stage.banks.get 0).state = .ready ∧ s.run.state = .idle) ∧
    (let s := bank0 .ready (inRun .running)
     Ready s ∧ s.run.state ≠ .idle ∧ s.run.state ≠ .armed) ∧
    (loaded.stage.banks.get 0).state ≠ .ready ∧ Ready rotating := by decide +kernel

theorem witness_LayoutAndAlternation :
    (Ready loaded ∧ LayoutSound ⟨0, 0, 40⟩ ∧ LayoutSound ⟨64, 64, 64⟩ ∧
     (∀ b, (loaded.stage.banks.get b).state = .empty) ∧ loaded.stage.alternation = none) ∧
    (Ready rotating ∧ rotating.stage.alternation = some alternating ∧ (0 : Fin 4) ≠ 1 ∧
     (rotating.stage.banks.get 0).state = .ready ∧ (rotating.stage.banks.get 1).state = .ready ∧
     (rotating.stage.banks.get 2).state ≠ .ready) ∧
    ¬((64#8).toNat ≤ (63#8).toNat ∧ (63#8).toNat ≤ (64#8).toNat ∧ (64#8).toNat ≤ 64) ∧
    ¬((0#8).toNat ≤ (64#8).toNat ∧ (64#8).toNat ≤ (65#8).toNat ∧ (65#8).toNat ≤ 64) ∧
    4 ≤ (4#8).toNat ∧ 2 ≤ (2#8).toNat := by decide +kernel

theorem witness_RecordActsAsItsCommand :
    isStageable .seqSelect = true ∧ captureCheck .seqSelect [1#8] = none ∧ loaded.run.state = .idle ∧
    (executeDirect .seqSelect [1#8] loaded).reply = [0#8, 1#8] ∧
    (executeDirect .seqSelect [2#8] loaded).reply = [4#8] := by decide +kernel

theorem witness_BankApplied :
    loaded.table.seqStart < loaded.table.count ∧ (loaded.lights.channels.get 0).firing = none ∧
    applyRecord (selects 2#8) loaded = none ∧ (applyRecord (selects 1#8) loaded).isSome = true := by decide +kernel

theorem witness_DueBanksAtCycleBegin :
    NothingDue loaded ∧ rotating.stage.alternation = some alternating ∧
    (∀ b : Fin 4, (rotating.stage.banks.get b).state ≠ .pending) ∧
    alternating.remaining = 0 ∧ alternating.periodA = 1 ∧
    (let s := bank0 .pending loaded
     s.stage.alternation = none ∧ (s.stage.banks.get 0).state = .pending ∧
     ∀ k : Fin 4, k ≠ 0 → (s.stage.banks.get k).state ≠ .pending) ∧
    (let s : State := { bank0 .pending loaded with
       stage.banks := (bank0 .pending loaded).stage.banks.set 3 ⟨.pending, []⟩ }
     ∀ k : Fin 4, (s.stage.banks.get k).state = .pending ↔ k = 0 ∨ k = 3) := by decide +kernel

/-- An alternation whose hold starts together with a PENDING bank, and four PENDING banks. -/
theorem witness_DueBanksAtCycleBegin_order :
    (let s : State := { rotating with stage.banks := rotating.stage.banks.set 3 ⟨.pending, [selects 1#8]⟩ }
     s.stage.alternation = some alternating ∧ alternating.remaining = 0 ∧ (s.stage.banks.get 3).state = .pending) ∧
    (let s : State := { loaded with
       stage.banks := ⟨⟨.pending, []⟩, ⟨.pending, []⟩, ⟨.pending, []⟩, ⟨.pending, []⟩⟩ }
     ∀ k : Fin 4, (s.stage.banks.get k).state = .pending) := by decide +kernel

theorem witness_FireStartsTestShot :
    (Ready State.reset ∧ State.reset.supply.mode ≠ .operate) ∧
    (Ready (inRun .armed) ∧ (inRun .armed).supply.mode = .operate ∧ (inRun .armed).run.state ≠ .idle) ∧
    (Ready loaded ∧ loaded.supply.mode = .operate ∧ loaded.run.state = .idle ∧ loaded.seq.state = .quiet ∧
     loaded.table.count ≤ 2 ∧ loaded.table.entries[1]? = some entryB) := by decide +kernel

theorem witness_FlashStartAdmits :
    (Resting loaded ∧ loaded.seq.shot = none) ∧
    (Resting (shotIn entryA .lead) ∧
     (shotIn entryA .lead).seq.shot = some { leadShot 0 entryA false with phase := .lead }) ∧
    ((shotIn entryA .flash).seq.shot.map Shot.phase = some .flash) := by decide +kernel

theorem witness_FlashEndLatches :
    Resting loaded ∧ loaded.seq.shot = none ∧ Resting (shotIn entryA .flash) ∧ Resting (shotIn entryB .flash) ∧
    (shotIn entryA .flash).seq.shot = some { leadShot 0 entryA false with phase := .flash } := by decide +kernel

theorem witness_PhaseEnds :
    (Resting (shotIn entryA .tail) ∧
     (shotIn entryA .tail).seq.shot = some { leadShot 0 entryA false with phase := .tail }) ∧
    (let s := shotIn entryA .gap
     Resting s ∧ s.seq.shot = some { leadShot 0 entryA false with phase := .gap } ∧ entryA.pause = false ∧
     s.seq.lastEntry = false ∧ s.table.entries[s.seq.cursor + 1]? = some entryB) ∧
    (let s := shotIn { entryA with pause := true } .gap
     s.run.setup.startSource ≠ .trigGate ∧ s.run.state ≠ .finishing) ∧
    (let s : State := { shotIn entryB .gap with seq.lastEntry := true, run.state := .finishing }
     Resting s ∧ s.seq.lastEntry = true ∧ s.run.state = .finishing ∧ s.run.afterLeft = 0) ∧
    (let s : State := { loaded with
       seq.state := .testing, seq.shot := some { leadShot 0 entryA true with phase := .gap } }
     Resting s ∧ s.seq.shot.map Shot.test = some true) ∧
    1 < loaded.table.count ∧ 1 + 1 = loaded.table.count ∧ entryB.endFlag = true ∧ loaded.table.seqStart ≤ 1 := by
  decide +kernel

theorem witness_SenseGetAnswers :
    Ready (bank0 .opened (shotIn entryA .flash)) ∧ Instr.flashStart ≠ .flashEnd ⟨0, 0, 0, 0⟩ 0#4 ∧
    loaded.resetCause = none ∧ loaded.link.executor = .idle := by decide +kernel

theorem witness_CycleRequestAccepted :
    (let s := inRun .running
     s.run.state = .running ∧ s.seq.state = .quiet ∧ NothingDue s ∧ Resting s ∧ s.run.pacer ≠ none ∧
     s.table.entries[s.table.seqStart]? = some entryA ∧ s.lock.setup.enable = false ∧
     s.run.setup.stopSource ≠ .count) ∧
    (let s : State := { inRun .running with
       run.encoder := 1, run.setup := { RunSetup.reset with cycleSource := .encoder } }
     Resting s ∧ s.run.setup.cycleSource = .encoder ∧ s.supply.mode = .operate ∧ s.run.encoder = 1) ∧
    (let s : State := { inRun .running with run.setup := { RunSetup.reset with cycleSource := .trig } }
     s.run.setup.cycleSource = .trig ∧ s.run.setup.stopSource ≠ .trigEdge) ∧
    (let s : State := { inRun .running with run.setup := { RunSetup.reset with cycleSource := .command } }
     Ready s ∧ s.run.setup.cycleSource = .command) ∧
    (let s : State := { inRun .running with run.setup := { RunSetup.reset with stopSource := .count } }
     Resting s ∧ s.run.setup.stopSource = .count ∧
     (s.run.cycleCount + 1) % 4294967296 = s.run.setup.stopCount) ∧
    (let s : State := { inRun .running with lock.setup := { LineLock.reset.setup with enable := true } }
     s.lock.setup.enable = true ∧ s.lock.syncOk = false ∧ s.run.setup.stopSource ≠ .count) ∧
    (let s : State := { inRun .running with
       lock.setup := { LineLock.reset.setup with enable := true }, lock.syncOk := true }
     s.lock.syncOk = true) := by decide +kernel

/-- An after-left cycle, and a cycle under COUNT with the lock on, with sync and without. -/
theorem witness_CycleRequestAccepted_finishing :
    (let s : State := { inRun .finishing with run.afterLeft := 1 }
     s.run.state = .finishing ∧ 0 < s.run.afterLeft ∧ s.seq.state = .quiet ∧ NothingDue s ∧ Ready s ∧ Resting s ∧
     s.table.entries[s.table.seqStart]? = some entryA) ∧
    (let s : State := { inRun .running with
       run.setup := { RunSetup.reset with stopSource := .count }
       lock.setup := { LineLock.reset.setup with enable := true }, lock.syncOk := true }
     Resting s ∧ s.lock.setup.enable = true ∧ s.lock.syncOk = true ∧
     (s.run.cycleCount + 1) % 4294967296 = s.run.setup.stopCount) ∧
    (let s : State := { inRun .finishing with
       run.afterLeft := 1, run.setup := { RunSetup.reset with cycleSource := .trig, stopSource := .trigEdge } }
     Resting s ∧ s.run.setup.cycleSource = .trig ∧ s.run.state = .finishing) := by decide +kernel

/-- A cycle request with two banks due. -/
theorem witness_CycleRequestAccepted_due :
    (twoPending []).run.state = .running ∧ (twoPending []).seq.state = .quiet ∧ ¬NothingDue (twoPending []) ∧
    Resting (twoPending []) ∧ (twoPending []).run.pacer ≠ none := by decide +kernel

theorem witness_CycleSourceOutcomes :
    loaded.run.state = .idle ∧
    ((inRun .finishing).run.state = .finishing ∧ (inRun .finishing).run.afterLeft = 0) ∧
    (inRun .paused).run.state = .paused ∧ (shotIn entryA .lead).seq.state ≠ .quiet ∧
    (let s : State := { inRun .finishing with run.afterLeft := 1 }
     s.run.state = .finishing ∧ 0 < s.run.afterLeft ∧ s.seq.state = .quiet) ∧
    (let s : State := { inRun .delaying with run.delayLeft := 2 }
     s.run.state = .delaying ∧ 1 < s.run.delayLeft) ∧ (inRun .delaying).run.delayLeft ≤ 1 ∧
    (Resting (inRun .running) ∧ (inRun .running).run.pacer ≠ none ∧ Resting loaded ∧ loaded.run.pacer = none) ∧
    (let s : State := { inRun .running with run.setup := { RunSetup.reset with cycleSource := .encoder } }
     s.run.setup.cycleSource = .encoder ∧ s.supply.mode = .operate ∧ 1 < s.run.encoder) ∧
    (let s : State := { inRun .running with
       run.setup := { RunSetup.reset with cycleSource := .trig, stopSource := .trigEdge } }
     Resting s ∧ s.run.setup.cycleSource = .trig ∧ s.run.setup.startSource = .command ∧
     s.supply.mode = .operate ∧ s.run.setup.stopSource = .trigEdge) ∧
    (Ready (inRun .running) ∧ (inRun .running).run.setup.cycleSource ≠ .command ∧
     (inRun .running).run.state ≠ .idle ∧ (inRun .running).run.state ≠ .armed) := by decide +kernel

theorem witness_RunSetupStored :
    Ready loaded ∧ loaded.run.state = .idle ∧ (inRun .armed).run.state ≠ .idle ∧ Ready (inRun .armed) ∧
    (let u : RunSetup := { RunSetup.reset with
       stopCount := 4294967295, pacerPeriod := 100, encoderSpan := 65535, delay := 65535, afterCount := 65535 }
     1 ≤ u.stopCount ∧ u.stopCount < 4294967296 ∧ 100 ≤ u.pacerPeriod ∧ u.pacerPeriod ≤ 2000000 ∧
     1 ≤ u.encoderSpan ∧ u.encoderSpan < 65536 ∧ ¬(u.cycleSource = .trig ∧ u.startSource ≠ .command) ∧
     ¬(u.stopSource = .trigEdge ∧ u.startSource = .trigGate)) ∧
    ¬(1 ≤ ({ RunSetup.reset with stopCount := 0 } : RunSetup).stopCount) ∧
    (let bytes (i : Nat) (x : Byte) : List Byte := (List.replicate 21 0#8).set i x
     (bytes 0 3#8).length = 21 ∧ 3 ≤ byteAt (bytes 0 3#8) 0 ∧ 4 ≤ byteAt (bytes 1 4#8) 1 ∧ 4 ≤ byteAt (bytes 2 4#8) 2 ∧
     2 ≤ byteAt (bytes 11 2#8) 11 ∧ 2 ≤ byteAt (bytes 18 2#8) 18 ∧ 2 ≤ byteAt (bytes 20 2#8) 20) := by decide +kernel

theorem witness_StartByRunState :
    (Ready State.reset ∧ State.reset.supply.mode ≠ .operate) ∧
    (let s : State := { loaded with seq.state := .testing }
     Ready s ∧ s.supply.mode = .operate ∧ s.seq.state = .testing) ∧
    (Ready operate ∧ operate.supply.mode = .operate ∧ operate.seq.state ≠ .testing ∧
     operate.table.count ≤ operate.table.seqStart) ∧
    (Ready loaded ∧ loaded.seq.state ≠ .testing ∧ loaded.table.seqStart < loaded.table.count ∧
     loaded.run.state = .idle ∧ loaded.run.setup.startSource = .command) ∧
    (let s : State := { inRun .paused with run.setup := { RunSetup.reset with startSource := .trigEdge } }
     Ready s ∧ s.run.state = .paused ∧ s.run.setup.startSource ≠ .command) ∧
    (Ready (inRun .finishing) ∧ (inRun .finishing).run.state = .finishing) ∧
    (let s : State := { inRun .paused with seq.state := .suspended }
     s.seq.lastEntry = false ∧ s.table.entries[s.seq.cursor + 1]? = some entryB) := by
  refine ⟨?_, ?_, ?_, ?_, ?_, ?_, ?_⟩ <;> decide +kernel

theorem witness_HaltAndRunEnd :
    Ready loaded ∧ Ready (inRun .armed) ∧ Ready (inRun .delaying) ∧ Ready (inRun .running) ∧
    Ready (inRun .paused) ∧ (inRun .paused).run.state = .paused ∧
    (let s : State := { inRun .finishing with
       run.stopKind := .gate, pins.trigHigh := true
       run.setup := { RunSetup.reset with startSource := .trigGate } }
     s.run.stopKind = .gate ∧ s.run.setup.startSource = .trigGate ∧
     (s.run.setup.polarity = .rising ↔ s.pins.trigHigh = true)) ∧
    (let s : State := { inRun .running with run.setup := { RunSetup.reset with afterCount := 65535 } }
     s.run.state = .running ∧ s.seq.state = .quiet ∧ s.run.setup.afterCount ≠ 0) ∧
    (inRun .idle).run.state = .idle ∧ (inRun .delaying).run.state = .delaying := by decide +kernel

theorem witness_AbortEndsEverything :
    (Ready loaded ∧ loaded.run.state = .idle ∧ loaded.seq.state ≠ .testing) ∧
    (Ready (shotIn entryA .flash) ∧ (shotIn entryA .flash).run.state ≠ .idle) ∧
    (let s : State := { loaded with seq.state := .testing }
     Ready s ∧ s.seq.state = .testing) := by decide +kernel

theorem witness_TrigEdges :
    Resting State.reset ∧ State.reset.supply.mode = .standby ∧
    (let s : State := { State.reset with supply.mode := .waking }
     Resting s ∧ s.supply.mode = .waking ∧ s.supply.mode ≠ .operate) ∧
    (Resting (inRun .running) ∧ (inRun .running).supply.mode = .operate ∧
     (inRun .running).run.state = .running ∧ (inRun .running).run.setup.startSource ≠ .trigGate) ∧
    (let s : State := { inRun .delaying with run.setup := { RunSetup.reset with startSource := .trigGate } }
     Resting s ∧ s.run.setup.startSource = .trigGate ∧ s.run.state = .delaying) := by decide +kernel

theorem witness_TrigEdges_wake :
    let s : State := { State.reset with supply.wakeOnTrigger := true }
    Resting s ∧ s.supply.mode = .standby ∧ s.supply.wakeOnTrigger = true := by decide +kernel

theorem witness_TrigEdges_armed :
    (Resting (inRun .armed) ∧ (inRun .armed).run.state = .armed ∧
     (inRun .armed).supply.mode = .operate ∧ (inRun .armed).run.setup.startSource = .command) ∧
    (let s : State := { inRun .armed with run.setup := { RunSetup.reset with startSource := .trigEdge } }
     Resting s ∧ s.run.state = .armed ∧ s.supply.mode = .operate ∧ s.run.setup.startSource ≠ .command) ∧
    (let s : State := { inRun .armed with run.setup := { RunSetup.reset with startSource := .trigGate } }
     Resting s ∧ s.run.setup.startSource = .trigGate ∧ s.run.state ≠ .delaying ∧ s.run.state ≠ .running) := by
  decide +kernel

theorem witness_TrigEdges_finishing_paused :
    (let s : State := { inRun .finishing with run.afterLeft := 1 }
     Resting s ∧ s.run.state = .finishing ∧ s.supply.mode = .operate) ∧
    (let s : State := { inRun .paused with
       seq.state := .suspended, run.setup := { RunSetup.reset with startSource := .trigEdge } }
     Resting s ∧ s.run.state = .paused ∧ s.supply.mode = .operate ∧ s.run.setup.startSource = .trigEdge) ∧
    (let s : State := { inRun .paused with
       seq.state := .suspended, run.setup := { RunSetup.reset with stopSource := .trigEdge, afterCount := 65535 } }
     Resting s ∧ s.run.state = .paused ∧ s.run.setup.startSource ≠ .trigEdge) := by decide +kernel

theorem witness_LockSetupStored :
    (Ready loaded ∧ loaded.seq.state ≠ .waitSync ∧ loaded.lock.setup.enable = false) ∧
    (let s : State := { loaded with lock.setup := { LineLock.reset.setup with enable := true } }
     Ready s ∧ s.lock.setup.enable = true) ∧
    (let s : State := { inRun .running with seq.state := .waitSync, lock.hold := .edge }
     Ready s ∧ s.seq.state = .waitSync) ∧
    (let u : LockSetup := ⟨false, .rising, 200, 100000⟩
     u.timeout < 256 ∧ u.phase < 4294967296 ∧ 1 ≤ u.timeout ∧ u.timeout ≤ 200 ∧ u.phase ≤ 100000) ∧
    (let bytes (i : Nat) : List Byte := (List.replicate 7 0#8).set i 2#8
     (bytes 0).length = 7 ∧ 2 ≤ byteAt (bytes 0) 0 ∧ 2 ≤ byteAt (bytes 1) 1) := by
  decide +kernel

theorem witness_SyncWatchAndHold :
    (Resting loaded ∧ loaded.lock.setup.enable = false ∧ loaded.lock.watch = none ∧ loaded.lock.hold = .none) ∧
    (let s : State := { inRun .running with
       seq.state := .waitSync, lock := ⟨⟨true, .rising, 25, 0⟩, true, some 25000, .edge⟩ }
     Resting s ∧ s.lock.setup.enable = true ∧ s.supply.mode = .operate ∧ s.lock.hold = .edge ∧
     s.lock.setup.phase = 0 ∧ s.lock.watch ≠ none ∧ NothingDue s ∧
     s.table.entries[s.table.seqStart]? = some entryA) ∧
    (let s : State := { inRun .running with
       seq.state := .waitSync, lock := ⟨⟨true, .falling, 25, 1⟩, true, some 25000, .edge⟩ }
     Resting s ∧ s.lock.setup.enable = true ∧ s.supply.mode = .operate ∧ s.lock.hold = .edge ∧
     0 < s.lock.setup.phase) ∧
    (let s : State := { inRun .running with
       seq.state := .waitSync, lock := ⟨⟨true, .rising, 25, 100000⟩, true, some 25000, .phase 100000⟩ }
     Resting s ∧ 0 < s.lock.setup.phase ∧ s.lock.hold = .phase 100000) ∧
    (let s : State := { inRun .running with lock := ⟨⟨true, .rising, 25, 0⟩, true, some 25000, .none⟩ }
     Resting s ∧ s.lock.watch ≠ none ∧ s.lock.hold = .none) := by decide +kernel

/-- A cycle begin whose bank moves `seq_start` to entry 1. -/
theorem witness_SyncWatchAndHold_due :
    Resting (twoPending []) ∧ (twoPending []).table.seqStart < (twoPending []).table.count ∧
    (applyDueBanks { twoPending [] with seq.cycleNumber := 1, seq.position := 0 }).table = ⟨[entryA, entryB], 1⟩ := by
  decide +kernel

theorem witness_RegModeAndForce :
    Ready loaded ∧ NoOpen loaded ∧ 8 ≤ (8#8).toNat ∧ 3 ≤ (3#8).toNat ∧ (List.replicate 4 0#8).length = 4 ∧
    forceFits Regulator.reset.limits 2000 1023 = true ∧ forceFits Regulator.reset.limits 2001 1023 = false ∧
    (loaded.regs.get 0).mode ≠ .auto := by decide +kernel

theorem witness_RegBandsAndLimits :
    Ready loaded ∧ NoOpen loaded ∧
    bandsValid { Regulator.reset.bands with weights := ⟨15, 0, 15, 0⟩, fastHigh := 65535 } = true ∧
    bandsValid { Regulator.reset.bands with weights := ⟨16, 0, 0, 0⟩ } = false ∧
    limitsValid ⟨1, 20000, 0, 1023, 1000, 255, 255, 0⟩ = true ∧
    limitsValid ⟨10000, 20000, 0, 1023, 1000, 255, 255, 10000⟩ = true ∧
    limitsValid ⟨0, 20000, 0, 1023, 1000, 255, 255, 0⟩ = false ∧
    8 ≤ (8#8).toNat ∧ (List.replicate 16 0#8).length = 16 ∧ (List.replicate 14 0#8).length = 14 := by decide +kernel

theorem witness_RecordsRead : Ready (bank0 .opened loaded) ∧ 8 ≤ (8#8).toNat := by decide +kernel

theorem witness_FigureFormed :
    ({ Regulator.reset with mode := .off } : Regulator).mode = .off ∧ Regulator.reset.mode ≠ .off ∧
    (∀ i, (Quad.get ⟨65535, 0, 1, 2⟩ i : Nat) ≤ 65535) := by decide +kernel

/-- An AUTO regulator with one figure. -/
def figured (st : RegState) (f duration current : Nat) : Regulator :=
  { Regulator.reset with mode := .auto, state := st, sum := f, count := 1, duration := duration, current := current }

theorem witness_CloseStepDecides :
    bandsValid Regulator.reset.bands = true ∧ Regulator.reset.mode ≠ .auto ∧
    (figured .stable 24000 100 256).mode = .auto ∧ 0 < (figured .stable 24000 100 256).count ∧
    (closeRegulator (figured .stable 24000 100 256)).state = .stable ∧
    (closeRegulator (figured .stable 23999 100 256)).state = .converging ∧
    (closeRegulator (figured .converging 28000 100 256)).state = .stable ∧
    (closeRegulator (figured .converging 36001 100 256)).state = .converging ∧
    (closeRegulator (figured .converging 0 2000 1023)).state = .satHigh ∧
    (closeRegulator (figured .converging 65535 1 64)).state = .satLow ∧
    (closeRegulator (figured .converging 7999 2000 0)).current = 16 ∧
    (closeRegulator (figured .converging 8000 2000 0)).current = 16 ∧
    (closeRegulator (figured .converging 56001 101 64)).duration = 50 ∧
    (closeRegulator (figured .converging 56000 101 64)).duration = 91 := by decide +kernel

theorem witness_FaultLines :
    Resting (shotIn entryA .flash) ∧ (loaded.lights.channels.get 7).faulted = false ∧
    (let s : State := { loaded with
       lights.channels := loaded.lights.channels.set 7 { LightChannel.reset with faulted := true } }
     Resting s ∧ (s.lights.channels.get 7).faulted = true) ∧
    (let s : State := { inRun .running with run.setup := { RunSetup.reset with faultHalts := true } }
     Resting s ∧ faultStops s = true) := by decide +kernel

theorem witness_FaultClearAndCooling :
    (Ready loaded ∧ loaded.pins.faultLines.getLsbD 7 = false ∧ (loaded.lights.channels.get 7).faulted = false) ∧
    (let s : State := { loaded with
       lights.channels := loaded.lights.channels.set 7 { LightChannel.reset with faulted := true }
       regs := loaded.regs.set 7 (figured .stable 0 100 256) }
     Ready s ∧ (s.lights.channels.get 7).faulted = true ∧ (s.regs.get 7).mode = .auto) ∧
    (let s : State := { loaded with pins.faultLines := 0x80#8 }
     Ready s ∧ s.pins.faultLines.getLsbD 7 = true) ∧
    (Resting loaded ∧ loaded.lights.dutyTimer ≠ none) ∧
    (let s : State := { loaded with lights.dutyTimer := none }
     Resting s ∧ s.lights.dutyTimer = none) := by decide +kernel

theorem witness_ResultsReadAndFlushed : Ready loaded ∧ (13 : Nat) < 256 := by decide +kernel

theorem witness_SupplyModes :
    (Ready (inRun .armed) ∧ (inRun .armed).supply.mode = .operate ∧ (inRun .armed).run.state ≠ .idle) ∧
    (Ready loaded ∧ loaded.run.state = .idle ∧ loaded.seq.state ≠ .testing) ∧
    (let s : State := { State.reset with supply := ⟨.waking, 20, false, some 20000, true⟩ }
     Ready s ∧ Resting s ∧ s.supply.mode = .waking ∧ s.supply.settleTimer ≠ none) ∧
    (Ready State.reset ∧ State.reset.supply.mode = .standby ∧ State.reset.supply.settleTimer = none) := by
  decide +kernel

/-- L0 lit in the flash phase of entry 0 in a running cycle, its sync watch running, the end of the firing next. -/
def flashing : State :=
  let lit : LightChannel := { LightChannel.reset with heat := 150, firing := some ⟨512, 300⟩ }
  { shotIn entryA .flash with
    seq.shot := some { leadShot 0 entryA false with phase := .flash, timeLeft := 500, flashLength := 500, fired := 1#8 }
    lights.channels := (shotIn entryA .flash).lights.channels.set 0 lit
    lock.syncOk := true, lock.watch := some 25000, sense.integrating := true
    pending := [.firingEnd 0] }

/-- Two READY banks in alternation, the OPEN bank 2 with one record, the end of capture next. -/
def staged : State :=
  { State.reset with
    stage.banks := ⟨⟨.ready, []⟩, ⟨.ready, [⟨0x12#8, [3#8]⟩]⟩, ⟨.opened, [⟨0x12#8, [3#8]⟩]⟩, ⟨.empty, []⟩⟩
    stage.alternation := some { a := 0, b := 1, periodA := 1, periodB := 255, repeats := true, dueB := true,
                                remaining := 255 }
    pending := [.stageClose 5#8 []] }

theorem witness_StepKeepsBlocksSound :
    RegulatorsSound flashing ∧ HeatsSound flashing ∧ TableSound flashing ∧ ResultsSound flashing ∧
    SupplySound flashing ∧ WatchSound flashing ∧ LinesLatched flashing ∧ SenseSound flashing ∧
    ∃ t, step flashing = .next t := by
  refine ⟨?_, ?_, ?_, ?_, ?_, ?_, ?_, ?_, _, rfl⟩ <;>
    simp only [RegulatorsSound, HeatsSound, TableSound, ResultsSound, SupplySound, WatchSound, LinesLatched,
      SenseSound] <;>
    decide +kernel

theorem witness_StepKeepsStageSound : StageSound staged ∧ ∃ t, step staged = .next t := by
  have checked : RecordSound ⟨0x12#8, [3#8]⟩ := ⟨.seqSelect, by decide +kernel⟩
  refine ⟨⟨by decide +kernel, ?_, by decide +kernel, ?_⟩, _, rfl⟩
  · intro b
    refine ⟨by revert b; decide +kernel, by revert b; decide +kernel, ?_⟩
    have all : ∀ b, ∀ r ∈ (staged.stage.banks.get b).records, r = ⟨0x12#8, [3#8]⟩ := by decide +kernel
    intro r hr
    exact all b r hr ▸ checked
  · intro r hr
    cases hr
    decide +kernel

theorem witness_StepKeepsLinkSound :
    let s := held { State.reset with link.receiver := .assembling [2#8], link.gapTimer := some 2000,
                                     link.commands := List.replicate 4 (bare 0x01#8),
                                     link.replies := [bare 0x84#8], pending := [.frameSent] }
    LinkSound s ∧ ∃ t, step s = .next t := by
  refine ⟨⟨?_, ?_, ?_, ?_⟩, _, rfl⟩ <;> simp only [LinkBounds, ReceiverSound, Settled] <;> decide +kernel

theorem witness_StepKeepsRunSound : RunSound flashing ∧ ∃ t, step flashing = .next t := by
  refine ⟨⟨?_, ?_⟩, _, rfl⟩
  · constructor
    case test_shot => intro sh h; cases h; decide +kernel
    case integrates_in_flash => exact ⟨fun _ => ⟨_, rfl, rfl⟩, fun _ => rfl⟩
    all_goals decide +kernel
  · intro l on
    have lamp : ∀ l, (flashing.lights.channels.get l).on = true →
        hasLight 1#8 l = true ∧ (flashing.lights.channels.get l).faulted = false ∧
          (flashing.regs.get l).mode ≠ .off := by decide +kernel
    obtain ⟨fired, whole, lit⟩ := lamp l on
    exact ⟨⟨_, rfl, rfl, fired⟩, whole, lit, rfl⟩

end Sys2Proof.Tests
end

section
/-!
PROOFS. The commands of the Shot Table (01_the_shot_table.md): what each parse answers, what each command
does when a Ready part takes it, and the settled statements about them.
-/

namespace Sys2Proof.ShotTableProofs

open Sys2Proof.Machine Sys2Proof.Safety

/-! ### One byte and one parse -/

/-- The first byte of a payload that begins with a 1-byte field is that field (R183). -/
theorem byteAt_le1 {n : Nat} (h : n < 256) (p : List Byte) : byteAt (le1 n ++ p) 0 = n := by
  simpa [byteAt, le1] using h

@[simp] theorem length_le1 (n : Nat) : (le1 n).length = 1 := rfl

/-- A payload of the right length that has a value gives it (R162). -/
theorem sized_some {α : Type} {n : Nat} {p : List Byte} (h : p.length = n) (a : α) :
    sized n p (some a) = .ok a := by
  simp [sized, h]

/-- A payload of the right length that has no value is BAD_VALUE (R162). -/
theorem sized_none {α : Type} {n : Nat} {p : List Byte} (h : p.length = n) :
    sized n p (none : Option α) = .error .badValue := by
  simp [sized, h]

/-- SHOT_GET and FIRE take any index that a byte holds (R16, R41). -/
theorem parseIndex_le1 {i : Nat} (h : i < 256) : parseIndex (le1 i) = .ok i := by
  have hb : byteAt (le1 i) 0 = i := byteAt_le1 h []
  rw [parseIndex, hb]
  exact sized_some (length_le1 i) i

/-- SEQ_SELECT takes a start up to 127 (R17 checks 1 and 2). -/
theorem parseSeqSelect_le1 {i : Nat} (h : i < 256) :
    parseSeqSelect (le1 i) = if i ≤ 127 then .ok i else .error .badValue := by
  have hb : byteAt (le1 i) 0 = i := byteAt_le1 h []
  rw [parseSeqSelect, hb]
  by_cases hi : i ≤ 127
  · simpa [checked, hi] using sized_some (length_le1 i) i
  · simpa [checked, hi] using sized_none (length_le1 i)

/-! ### SHOT_GET (R16) -/

theorem shotGet_ready {tag : Byte} {i : Nat} {s : State} (h : Ready s) :
    exec (.shotGet tag (le1 i)) s =
      .next (replied 0x91#8 tag (takeShotGet (le1 i) s).reply (takeShotGet (le1 i) s).state) := by
  show hostCommand .shotGet tag (le1 i) s = _
  rw [hostCommand_ready h (by simp [le1]), executeCommand_unstageable rfl]
  rfl

theorem takeShotGet_defined {i : Nat} {s : State} {e : ShotEntry} (h : i < 256)
    (he : s.table.entries[i]? = some e) :
    takeShotGet (le1 i) s = accept s (le1 i ++ entryBytes e ++ le1 s.table.count ++ le1 s.table.seqStart) := by
  simp [takeShotGet, parseIndex_le1 h, he]

theorem takeShotGet_undefined {i : Nat} {s : State} (h : i < 256) (hi : s.table.count ≤ i) :
    takeShotGet (le1 i) s = refuse .badValue s := by
  have he : s.table.entries[i]? = none := List.getElem?_eq_none hi
  simp [takeShotGet, parseIndex_le1 h, he]

/-- Settles O22: SHOT_GET is executed directly in every bank state, and answers from the table alone. -/
theorem shotGetAnswers : Obligations.ShotGetAnswers := by
  intro tag i s hready hi
  have undefined (hc : s.table.count ≤ i) :
      exec (.shotGet tag (le1 i)) s = .next (replied 0x91#8 tag [4#8] s) := by
    rw [shotGet_ready hready, takeShotGet_undefined hi hc]
    rfl
  refine ⟨fun e he => ?_, undefined, fun hc hlarge => undefined (hc.trans hlarge)⟩
  rw [shotGet_ready hready, takeShotGet_defined hi he]
  rfl

/-! ### SEQ_SELECT and TABLE_CLEAR (R17, R18) -/

/-- The table is written directly in IDLE and ARMED (R14, R17). -/
theorem tableWritable_iff (r : RunState) : tableWritable r = true ↔ r = .idle ∨ r = .armed := by
  cases r <;> simp [tableWritable]

theorem tableWritable_false {r : RunState} (hi : r ≠ .idle) (ha : r ≠ .armed) : tableWritable r = false := by
  cases r <;> simp_all [tableWritable]

theorem seqSelect_ready {tag : Byte} {i : Nat} {s : State} (h : Ready s) (hn : NoOpen s) :
    exec (.seqSelect tag (le1 i)) s =
      .next (replied 0x92#8 tag (takeSeqSelect (le1 i) s).reply (takeSeqSelect (le1 i) s).state) := by
  show hostCommand .seqSelect tag (le1 i) s = _
  rw [hostCommand_ready h (by simp [le1]), executeCommand_noOpen hn]
  rfl

theorem tableClear_ready {tag : Byte} {s : State} (h : Ready s) :
    exec (.tableClear tag []) s =
      .next (replied 0x93#8 tag (takeTableClear [] s).reply (takeTableClear [] s).state) := by
  show hostCommand .tableClear tag [] s = _
  rw [hostCommand_ready h (by simp), executeCommand_unstageable rfl]
  rfl

/-- SEQ_SELECT of a start up to 127, by run state and by the entries defined (R17 checks 3 and 4). -/
theorem takeSeqSelect_inRange {i : Nat} (s : State) (h : i ≤ 127) :
    takeSeqSelect (le1 i) s =
      if tableWritable s.run.state then
        if i < s.table.count then accept { s with table.seqStart := i } (le1 i) else refuse .badValue s
      else refuse .busy s := by
  simp only [takeSeqSelect, parseSeqSelect_le1 (show i < 256 by omega), h, if_true, putSeqStart]
  by_cases hc : i < s.table.count <;> simp [hc]

/-- SEQ_SELECT of a start from 128 up is BAD_VALUE before the run state is looked at (R17 check 2). -/
theorem takeSeqSelect_outOfRange {i : Nat} (s : State) (h : 127 < i) (hi : i < 256) :
    takeSeqSelect (le1 i) s = refuse .badValue s := by
  simp [takeSeqSelect, parseSeqSelect_le1 hi, Nat.not_le.mpr h]

/-- TABLE_CLEAR, by run state and sequencer state (R18). -/
theorem takeTableClear_nil (s : State) :
    takeTableClear [] s =
      if s.run.state = .idle ∧ s.seq.state ≠ .testing then accept { s with table := ⟨[], 0⟩ } []
      else refuse .busy s := rfl

/-- Settles O23, by the checks of R17 and R18 in their order. -/
theorem seqSelectAndTableClear : Obligations.SeqSelectAndTableClear := by
  intro tag s hready
  refine ⟨fun hopen => ⟨fun i hi hrun => ⟨fun hc => ?_, fun hc => ?_⟩, fun i hi hidle harmed => ?_,
    fun i hlow hhigh => ?_⟩, fun hidle htest => ?_, fun hbusy => ?_⟩
  · rw [seqSelect_ready hready hopen, takeSeqSelect_inRange s hi, if_pos ((tableWritable_iff _).mpr hrun),
      if_pos hc]
    rfl
  · rw [seqSelect_ready hready hopen, takeSeqSelect_inRange s hi, if_pos ((tableWritable_iff _).mpr hrun),
      if_neg (Nat.not_lt.mpr hc)]
    rfl
  · rw [seqSelect_ready hready hopen, takeSeqSelect_inRange s hi, tableWritable_false hidle harmed]
    rfl
  · rw [seqSelect_ready hready hopen, takeSeqSelect_outOfRange s hlow hhigh]
    rfl
  · rw [tableClear_ready hready, takeTableClear_nil, if_pos ⟨hidle, htest⟩]
    rfl
  · rw [tableClear_ready hready, takeTableClear_nil, if_neg (by tauto)]
    rfl

/-! ### The bytes of an entry (section 11.5.1) -/

/-- The flags byte of an entry, bit by bit (section 11.5.1). -/
theorem entryFlagsByte_bits (e : ShotEntry) :
    (entryFlagsByte e).getLsbD 0 = e.skip ∧ (entryFlagsByte e).getLsbD 1 = e.pause ∧
    (entryFlagsByte e).getLsbD 2 = e.endFlag ∧ (entryFlagsByte e).getLsbD 3 = e.baseline ∧
    (entryFlagsByte e).getLsbD 4 = e.regulate.isSome ∧ (entryFlagsByte e).getLsbD 5 = e.fixed.isSome ∧
    (entryFlagsByte e).getLsbD 6 = false ∧ (entryFlagsByte e).getLsbD 7 = false := by
  simp only [entryFlagsByte, flagBit, BitVec.getLsbD_or, getLsbD_weight]
  simp

/-- No entry sets flag bit 6 or 7 (section 11.5.1). -/
theorem entryFlagsByte_lt (e : ShotEntry) : (entryFlagsByte e).toNat < 64 := by
  have all : ∀ a b c d f g : Bool,
      (flagBit a 0x01#8 ||| flagBit b 0x02#8 ||| flagBit c 0x04#8 ||| flagBit d 0x08#8 |||
        flagBit f 0x10#8 ||| flagBit g 0x20#8).toNat < 64 := by decide
  exact all _ _ _ _ _ _

/-- The 4 bytes of the override, zero when there is none (section 11.5.1). -/
def overrideBytes (o : Option Override) : List Byte :=
  match o with
  | some o => le2 o.current ++ le2 o.duration
  | none => le2 0 ++ le2 0

/-- The byte of `regulate`, zero when there is none (section 11.5.1). -/
def regulateByte (r : Option Light) : Byte :=
  match r with
  | some l => lightCode l
  | none => 0#8

theorem le4_eq (n : Nat) :
    le4 n = [BitVec.ofNat 8 n, BitVec.ofNat 8 (n / 256), BitVec.ofNat 8 (n / 65536),
      BitVec.ofNat 8 (n / 16777216)] := by
  simp [le4, le2, Nat.div_div_eq_div_mul]

/-- The bytes of an entry, offset by offset (section 11.5.1). -/
theorem entryBytes_eq (e : ShotEntry) :
    entryBytes e =
      [e.lights, e.cameras.setWidth 8, e.aux, entryFlagsByte e, regulateByte e.regulate,
       BitVec.ofNat 8 e.lead, BitVec.ofNat 8 (e.lead / 256),
       BitVec.ofNat 8 e.window, BitVec.ofNat 8 (e.window / 256),
       BitVec.ofNat 8 e.tail, BitVec.ofNat 8 (e.tail / 256),
       BitVec.ofNat 8 e.gap, BitVec.ofNat 8 (e.gap / 256), BitVec.ofNat 8 (e.gap / 65536),
       BitVec.ofNat 8 (e.gap / 16777216)] ++ overrideBytes e.fixed := by
  unfold entryBytes
  rw [le4_eq]
  rfl

theorem length_entryBytes (e : ShotEntry) : (entryBytes e).length = 19 := by
  rw [entryBytes_eq]
  cases e.fixed <;> rfl

/-! ### Decoding an entry (R9, R183) -/

/-- The encodings that 19 bytes may hold, field by field (R9, R183). -/
def EncodingDefined (b : List Byte) : Prop :=
  byteAt b 1 < 16 ∧ byteAt b 3 < 64 ∧
  (if (b.getD 3 0#8).getLsbD 4 then byteAt b 4 < 8 else byteAt b 4 = 0) ∧
  ((b.getD 3 0#8).getLsbD 5 = true ∨ (word16At b 15 = 0 ∧ word16At b 17 = 0))

/-- The fields that 19 bytes hold, whatever their encodings (section 11.5.1). -/
def entryFields (b : List Byte) : ShotEntry :=
  { lights := b.getD 0 0#8
    cameras := BitVec.ofNat 4 (byteAt b 1)
    lead := word16At b 5
    window := word16At b 7
    tail := word16At b 9
    gap := word32At b 11
    aux := b.getD 2 0#8
    regulate := if (b.getD 3 0#8).getLsbD 4 then lightOf (byteAt b 4) else none
    fixed := if (b.getD 3 0#8).getLsbD 5 then some ⟨word16At b 15, word16At b 17⟩ else none
    skip := (b.getD 3 0#8).getLsbD 0
    pause := (b.getD 3 0#8).getLsbD 1
    endFlag := (b.getD 3 0#8).getLsbD 2
    baseline := (b.getD 3 0#8).getLsbD 3 }

/-- The checks of `entryOf` on the encodings, as it computes them. -/
def encodingChecks (b : List Byte) : Bool :=
  decide (byteAt b 1 < 16) && decide ((b.getD 3 0#8).toNat < 64) &&
    (if (b.getD 3 0#8).getLsbD 4 then decide (byteAt b 4 < 8) else decide (byteAt b 4 = 0)) &&
    ((b.getD 3 0#8).getLsbD 5 || (decide (word16At b 15 = 0) && decide (word16At b 17 = 0)))

theorem encodingChecks_iff (b : List Byte) : encodingChecks b = true ↔ EncodingDefined b := by
  have hflags : (b.getD 3 0#8).toNat = byteAt b 3 := rfl
  unfold encodingChecks EncodingDefined
  rw [hflags]
  split <;> simp only [Bool.and_eq_true, Bool.or_eq_true, decide_eq_true_eq, and_assoc]

theorem entryOf_eq (b : List Byte) : entryOf b = checked (encodingChecks b) (entryFields b) := rfl

/-- Bytes whose encodings are defined decode to their fields (R183). -/
theorem entryOf_defined {b : List Byte} (h : EncodingDefined b) : entryOf b = some (entryFields b) := by
  simp [entryOf_eq, checked, (encodingChecks_iff b).mpr h]

/-- Bytes with an undefined encoding are no entry (R183). -/
theorem entryOf_undefined {b : List Byte} (h : ¬ EncodingDefined b) : entryOf b = none := by
  simp [entryOf_eq, checked, Bool.eq_false_iff.mpr (mt (encodingChecks_iff b).mp h)]

/-- The conditions of R9 on the values of an entry. -/
theorem entryValid_iff (e : ShotEntry) : entryValid e = true ↔
    e.lead ≤ 5000 ∧ (1 ≤ e.window ∧ e.window ≤ 20000) ∧ e.tail ≤ 5000 ∧ (20 ≤ e.gap ∧ e.gap ≤ 1000000) ∧
    (∀ o, e.fixed = some o → o.current ≤ 1023 ∧ 1 ≤ o.duration ∧ o.duration ≤ 20000) ∧
    (∀ l, e.regulate = some l → e.lights.getLsbD l.val = true) ∧
    ¬(e.regulate ≠ none ∧ e.fixed ≠ none) ∧
    (e.baseline = true → e.lights = 0#8 ∧ e.regulate = none) ∧
    ¬(e.pause = true ∧ e.endFlag = true) := by
  unfold entryValid
  cases hf : e.fixed <;> cases hr : e.regulate <;> simp [hasLight] <;> grind

/-- A 16-bit field is read back from its two bytes. -/
theorem word16At_le2 {b : List Byte} {i n : Nat} (hn : n < 65536) (h0 : b.getD i 0#8 = BitVec.ofNat 8 n)
    (h1 : b.getD (i + 1) 0#8 = BitVec.ofNat 8 (n / 256)) : word16At b i = n := by
  simp only [word16At, byteAt, h0, h1, BitVec.toNat_ofNat]
  exact word16_bytes hn

/-- A 32-bit field is read back from its four bytes. -/
theorem word32At_le4 {b : List Byte} {i n : Nat} (hn : n < 4294967296) (h0 : b.getD i 0#8 = BitVec.ofNat 8 n)
    (h1 : b.getD (i + 1) 0#8 = BitVec.ofNat 8 (n / 256)) (h2 : b.getD (i + 2) 0#8 = BitVec.ofNat 8 (n / 65536))
    (h3 : b.getD (i + 3) 0#8 = BitVec.ofNat 8 (n / 16777216)) : word32At b i = n := by
  simp only [word32At, word16At, byteAt, h0, h1, h2, h3, BitVec.toNat_ofNat]
  omega

/-- The override's current and duration as `entryFields` reads them. -/
def overrideNumbers (o : Option Override) : Nat × Nat :=
  match o with
  | some o => (o.current, o.duration)
  | none => (0, 0)

/-- What each offset of an entry's bytes reads back, for the fields a valid entry admits (R9). -/
theorem entryBytes_read {e : ShotEntry} (h : entryValid e = true) :
    byteAt (entryBytes e) 1 = e.cameras.toNat ∧ word16At (entryBytes e) 5 = e.lead ∧
    word16At (entryBytes e) 7 = e.window ∧ word16At (entryBytes e) 9 = e.tail ∧
    word32At (entryBytes e) 11 = e.gap ∧
    word16At (entryBytes e) 15 = (overrideNumbers e.fixed).1 ∧
    word16At (entryBytes e) 17 = (overrideNumbers e.fixed).2 := by
  obtain ⟨hlead, ⟨-, hwindow⟩, htail, ⟨-, hgap⟩, hfixed, -⟩ := (entryValid_iff e).mp h
  have hnum : (overrideNumbers e.fixed).1 < 65536 ∧ (overrideNumbers e.fixed).2 < 65536 := by
    cases hf : e.fixed with
    | none => simp [overrideNumbers]
    | some o => obtain ⟨hc, -, hd⟩ := hfixed o hf; simp only [overrideNumbers]; omega
  have hover : overrideBytes e.fixed =
      le2 (overrideNumbers e.fixed).1 ++ le2 (overrideNumbers e.fixed).2 := by
    cases e.fixed <;> rfl
  rw [entryBytes_eq, hover]
  refine ⟨?_, word16At_le2 (by omega) rfl rfl, word16At_le2 (by omega) rfl rfl, word16At_le2 (by omega) rfl rfl,
    word32At_le4 (by omega) rfl rfl rfl rfl, word16At_le2 hnum.1 rfl rfl, word16At_le2 hnum.2 rfl rfl⟩
  have := e.cameras.isLt
  simp [byteAt]
  omega

/-- The byte of `regulate` is a light's number, or 0 when there is none (section 11.5.1). -/
theorem lightOf_regulateByte (l : Light) : lightOf (regulateByte (some l)).toNat = some l := by
  simp [regulateByte, lightCode]

theorem entryBytes_flags (e : ShotEntry) : (entryBytes e).getD 3 0#8 = entryFlagsByte e := by
  rw [entryBytes_eq]; rfl

theorem entryBytes_regulate (e : ShotEntry) : byteAt (entryBytes e) 4 = (regulateByte e.regulate).toNat := by
  rw [entryBytes_eq]; rfl

/-- The bytes of a valid entry hold defined encodings only. -/
theorem entryBytes_defined {e : ShotEntry} (h : entryValid e = true) : EncodingDefined (entryBytes e) := by
  obtain ⟨hcam, -, -, -, -, hcur, hdur⟩ := entryBytes_read h
  obtain ⟨-, -, -, -, hreg, hfix, -⟩ := entryFlagsByte_bits e
  unfold EncodingDefined
  rw [hcam, hcur, hdur, entryBytes_regulate, entryBytes_flags, hreg, hfix]
  refine ⟨e.cameras.isLt, ?_, ?_, ?_⟩
  · rw [byteAt, entryBytes_flags]
    exact entryFlagsByte_lt e
  · cases e.regulate with
    | none => rfl
    | some l => have := l.isLt; simp [regulateByte, lightCode]; omega
  · cases e.fixed with
    | none => exact .inr ⟨rfl, rfl⟩
    | some o => exact .inl rfl

/-- The bytes of a valid entry hold its fields. -/
theorem entryFields_entryBytes {e : ShotEntry} (h : entryValid e = true) : entryFields (entryBytes e) = e := by
  obtain ⟨hcam, hlead, hwindow, htail, hgap, hcur, hdur⟩ := entryBytes_read h
  obtain ⟨h0, h1, h2, h3, hreg, hfix, -⟩ := entryFlagsByte_bits e
  have hlights : (entryBytes e).getD 0 0#8 = e.lights := by rw [entryBytes_eq]; rfl
  have haux : (entryBytes e).getD 2 0#8 = e.aux := by rw [entryBytes_eq]; rfl
  unfold entryFields
  rw [hcam, hlead, hwindow, htail, hgap, hcur, hdur, entryBytes_regulate, entryBytes_flags, hlights, haux, h0, h1,
    h2, h3, hreg, hfix]
  have hregulate : (if e.regulate.isSome then lightOf (regulateByte e.regulate).toNat else none) = e.regulate := by
    cases e.regulate with
    | none => rfl
    | some l => exact lightOf_regulateByte l
  have hoverride : (if e.fixed.isSome then
      some (⟨(overrideNumbers e.fixed).1, (overrideNumbers e.fixed).2⟩ : Override) else none) = e.fixed := by
    cases e.fixed <;> rfl
  rw [hregulate, hoverride]
  simp

/-- A valid entry is decoded from its bytes (section 11.5.1). -/
theorem entryOf_entryBytes {e : ShotEntry} (h : entryValid e = true) : entryOf (entryBytes e) = some e := by
  rw [entryOf_defined (entryBytes_defined h), entryFields_entryBytes h]

/-- Settles O21: the bytes at their offsets, the round trip, and the encodings that are none. -/
theorem entryRoundTrip : Obligations.EntryRoundTrip := by
  refine ⟨fun e he => ⟨⟨length_entryBytes e, entryOf_entryBytes he⟩, entryFlagsByte e, ?_,
    entryFlagsByte_bits e⟩, fun bytes _ hbad => entryOf_undefined ?_⟩
  · rw [entryBytes_eq]
    cases e.fixed <;> rfl
  · rintro ⟨hcam, hflags, hlight, hover⟩
    rcases hbad with hbad | hbad | hbad | ⟨habsent, hbad⟩ | ⟨habsent, hbad⟩
    · omega
    · omega
    · split at hlight <;> omega
    · rw [if_neg (by rw [habsent]; exact Bool.false_ne_true)] at hlight
      exact hbad hlight
    · rcases hover with hpresent | ⟨hcur, hdur⟩
      · exact Bool.false_ne_true (habsent.symm.trans hpresent)
      · exact hbad.elim (· hcur) (· hdur)

/-! ### SHOT_PUT (R13, R14) -/

/-- SHOT_PUT's payload is its index and its entry's bytes (R13 checks 1 to 3). -/
theorem parseShotPut_eq {i : Nat} (hi : i < 256) {b : List Byte} (hb : b.length = 19) {e : ShotEntry}
    (he : entryOf b = some e) :
    parseShotPut (le1 i ++ b) = if i ≤ 127 ∧ entryValid e = true then .ok (i, e) else .error .badValue := by
  have hlen : (le1 i ++ b).length = 20 := by simp [hb]
  have hdrop : (le1 i ++ b).drop 1 = b := rfl
  rw [parseShotPut, hdrop, he, byteAt_le1 hi b]
  by_cases hok : i ≤ 127 ∧ entryValid e = true
  · simpa [checked, hok] using sized_some hlen (i, e)
  · have hno : (decide (i ≤ 127) && entryValid e) = false := by simpa using hok
    simpa [checked, hno, hok] using sized_none hlen

/-- 19 bytes that are no entry are BAD_VALUE (R13 check 3). -/
theorem parseShotPut_noEntry {i : Nat} {b : List Byte} (hb : b.length = 19) (he : entryOf b = none) :
    parseShotPut (le1 i ++ b) = .error .badValue := by
  have hdrop : (le1 i ++ b).drop 1 = b := rfl
  rw [parseShotPut, hdrop, he]
  exact sized_none (by simp [hb])

theorem shotPut_ready {tag : Byte} {i : Nat} {b : List Byte} {s : State} (h : Ready s) (hn : NoOpen s)
    (hb : b.length = 19) :
    exec (.shotPut tag (le1 i ++ b)) s =
      .next (replied 0x90#8 tag (takeShotPut (le1 i ++ b) s).reply (takeShotPut (le1 i ++ b) s).state) := by
  show hostCommand .shotPut tag (le1 i ++ b) s = _
  rw [hostCommand_ready h (by simp [hb]), executeCommand_noOpen hn]
  rfl

/-- SHOT_PUT of a payload that its checks refuse changes nothing (R13). -/
theorem takeShotPut_refused {p : List Byte} {st : Status} (s : State) (h : parseShotPut p = .error st) :
    takeShotPut p s = refuse st s := by
  simp [takeShotPut, h]

/-- SHOT_PUT outside IDLE and ARMED is BUSY (R14). -/
theorem takeShotPut_busy {p : List Byte} {i : Nat} {e : ShotEntry} {s : State} (h : parseShotPut p = .ok (i, e))
    (hw : tableWritable s.run.state = false) : takeShotPut p s = refuse .busy s := by
  simp [takeShotPut, h, hw]

/-- SHOT_PUT in IDLE and ARMED replaces below count, appends at count and is BAD_VALUE above it (R13). -/
theorem takeShotPut_writable {p : List Byte} {i : Nat} {e : ShotEntry} {s : State}
    (h : parseShotPut p = .ok (i, e)) (hw : tableWritable s.run.state = true) :
    takeShotPut p s =
      if i < s.table.count then
        accept { s with table.entries := s.table.entries.set i e } (le1 i ++ le1 s.table.count)
      else if i = s.table.count then
        accept { s with table.entries := s.table.entries ++ [e] } (le1 i ++ le1 (s.table.count + 1))
      else refuse .badValue s := by
  rcases Nat.lt_trichotomy i s.table.count with hc | hc | hc
  · have hput : putShot i e s = some { s with table.entries := s.table.entries.set i e } := by simp [putShot, hc]
    rw [if_pos hc]
    simp [takeShotPut, h, hw, hput, ShotTable.count]
  · have hput : putShot i e s = some { s with table.entries := s.table.entries ++ [e] } := by simp [putShot, hc]
    rw [if_neg (by omega), if_pos hc]
    simp [takeShotPut, h, hw, hput, ShotTable.count]
  · simp [takeShotPut, h, hw, putShot, hc.not_gt, hc.ne']

/-- Settles O20: R9's conditions, then SHOT_PUT by its checks, the run state and the entries defined. -/
theorem shotPutDirect : Obligations.ShotPutDirect := by
  refine ⟨entryValid_iff, fun tag i e s hready hopen hi => ?_⟩
  have hlen := length_entryBytes e
  have parsed (he : entryValid e = true) := parseShotPut_eq hi hlen (entryOf_entryBytes he)
  refine ⟨fun he hi' hrun => ?_, fun he hi' hidle harmed => ?_, fun he hlow => ?_, fun bytes hb hbad => ?_⟩
  · have hput := takeShotPut_writable (s := s) ((parsed he).trans (if_pos ⟨hi', he⟩))
      ((tableWritable_iff _).mpr hrun)
    refine ⟨fun hc => ?_, fun hc => ?_, fun hc => ?_⟩ <;> rw [shotPut_ready hready hopen hlen, hput]
    · rw [if_pos hc]
      rfl
    · rw [if_neg (by omega), if_pos hc]
      rfl
    · rw [if_neg (by omega), if_neg (by omega)]
      rfl
  · rw [shotPut_ready hready hopen hlen, takeShotPut_busy ((parsed he).trans (if_pos ⟨hi', he⟩))
      (tableWritable_false hidle harmed)]
    rfl
  · rw [shotPut_ready hready hopen hlen, takeShotPut_refused s ((parsed he).trans (if_neg (by omega)))]
    rfl
  · have refused : parseShotPut (le1 i ++ bytes) = .error .badValue := by
      cases hentry : entryOf bytes with
      | none => exact parseShotPut_noEntry hb hentry
      | some e' => rw [parseShotPut_eq hi hb hentry, if_neg (by simp [hbad e' hentry])]
    rw [shotPut_ready hready hopen hb, takeShotPut_refused s refused]
    rfl

end Sys2Proof.ShotTableProofs
end

section
/-!
PROOFS. The invariants over one block each: a regulator's step and its commands keep it within its limits and on its
band, admission keeps a heat account within its limit, and the table, the results and the sensed values stay in range.
-/

namespace Sys2Proof.BlocksProofs

open Sys2Proof.Machine Sys2Proof.Safety

/-! ### What the STAGE commands and the table's effects write -/

/-- From `s` to `t` only the Stage Unit changed. -/
def OnlyStage (s t : State) : Prop := ∃ u, t = { s with stage := u }

theorem OnlyStage.refl (s : State) : OnlyStage s s := ⟨s.stage, rfl⟩

theorem setBank_onlyStage (b : Fin 4) (k : Bank) (s : State) : OnlyStage s (setBank b k s) := ⟨_, rfl⟩

theorem capture_onlyStage (b : Fin 4) (c : Command) (p : List Byte) (s : State) :
    OnlyStage s (capture b c p s).state := by
  unfold capture
  split
  · exact .refl s
  · simp only
    split
    · exact setBank_onlyStage _ _ s
    · exact .refl s

theorem takeStageOpen_onlyStage (p : List Byte) (s : State) : OnlyStage s (takeStageOpen p s).state := by
  unfold takeStageOpen
  split
  · exact .refl s
  · simp only
    split
    · exact setBank_onlyStage _ _ s
    · exact .refl s

theorem takeStageClose_onlyStage (p : List Byte) (s : State) : OnlyStage s (takeStageClose p s).state := by
  unfold takeStageClose
  split
  · exact .refl s
  · split
    · exact .refl s
    · exact setBank_onlyStage _ _ s

theorem takeStageDrop_onlyStage (p : List Byte) (s : State) : OnlyStage s (takeStageDrop p s).state := by
  unfold takeStageDrop
  split
  · exact .refl s
  · simp only
    split
    · exact setBank_onlyStage _ _ s
    · split
      · exact setBank_onlyStage _ _ s
      · exact .refl s

theorem takeStageLayout_onlyStage (p : List Byte) (s : State) : OnlyStage s (takeStageLayout p s).state := by
  unfold takeStageLayout
  split
  · exact .refl s
  · split
    · exact ⟨_, rfl⟩
    · exact .refl s

theorem takeStageAlternate_onlyStage (p : List Byte) (s : State) : OnlyStage s (takeStageAlternate p s).state := by
  unfold takeStageAlternate
  split
  · exact .refl s
  · exact ⟨_, rfl⟩
  · split
    · exact ⟨_, rfl⟩
    · exact .refl s

/-- SHOT_PUT's effect replaces or appends an entry (R13). -/
theorem putShot_cases {i : Nat} {e : ShotEntry} {s t : State} (h : putShot i e s = some t) :
    (i < s.table.count ∧ t = { s with table.entries := s.table.entries.set i e }) ∨
    (i = s.table.count ∧ t = { s with table.entries := s.table.entries ++ [e] }) := by
  unfold putShot at h
  split at h
  · next hc => cases h; exact .inl ⟨hc, rfl⟩
  · split at h
    · next hc => cases h; exact .inr ⟨hc, rfl⟩
    · cases h

/-- SEQ_SELECT's effect sets a start below count (R17). -/
theorem putSeqStart_cases {i : Nat} {s t : State} (h : putSeqStart i s = some t) :
    i < s.table.count ∧ t = { s with table.seqStart := i } := by
  unfold putSeqStart at h
  split at h
  · next hc => cases h; exact ⟨hc, rfl⟩
  · cases h

/-- REG_FORCE's effect writes the actuators, which fit the limits (R103). -/
theorem putRegForce_cases {l : Light} {d c : Nat} {s t : State} (h : putRegForce l d c s = some t) :
    forceFits (s.regs.get l).limits d c = true ∧ t = updateReg l (withActuators d c) s := by
  unfold putRegForce at h
  split at h
  · next hc => cases h; exact ⟨hc, rfl⟩
  · cases h

/-- The effects that write the table write nothing else. -/
theorem putShot_onlyTable {i : Nat} {e : ShotEntry} {s t : State} (h : putShot i e s = some t) :
    ∃ u, t = { s with table := u } := by
  rcases putShot_cases h with ⟨-, rfl⟩ | ⟨-, rfl⟩ <;> exact ⟨_, rfl⟩

/-! ### The Shot Table (R1, R9) -/

theorem tableSound_of_table {s t : State} (hs : TableSound s) (h : t.table = s.table) : TableSound t := by
  simpa only [TableSound, h] using hs

theorem putShot_keeps_tableSound {i : Nat} {e : ShotEntry} {s t : State} (he : entryValid e = true)
    (h : putShot i e s = some t) (hi : i ≤ 127) (hs : TableSound s) : TableSound t := by
  obtain ⟨hcount, hall⟩ := hs
  rcases putShot_cases h with ⟨-, rfl⟩ | ⟨hc, rfl⟩
  · refine ⟨by simpa [ShotTable.count] using hcount, fun e' he' => ?_⟩
    rcases List.mem_or_eq_of_mem_set he' with hmem | rfl
    · exact hall e' hmem
    · exact he
  · refine ⟨by simp [ShotTable.count] at hc ⊢; omega, fun e' he' => ?_⟩
    rcases List.mem_append.mp he' with hmem | hmem
    · exact hall e' hmem
    · exact List.mem_singleton.mp hmem ▸ he

/-! ### The Result Queue (R149, R150, R154) -/

theorem resultsSound_of_results {s t : State} (hs : ResultsSound s) (h : t.results = s.results) :
    ResultsSound t := by
  simpa only [ResultsSound, h] using hs

theorem append_keeps_resultsSound (r : ResultRecord) {s : State} (h : s.results.count < 512) (hs : ResultsSound s) :
    ResultsSound { s with results.records := s.results.records ++ [r] } := by
  obtain ⟨-, hlost, hlow, hhigh⟩ := hs
  exact ⟨by simpa [ResultQueue.count] using h, hlost, hlow, hhigh⟩

theorem lose_keeps_resultsSound {s : State} (hs : ResultsSound s) :
    ResultsSound { s with results.lost := saturate top32 s.results.lost } := by
  obtain ⟨hcount, -, hlow, hhigh⟩ := hs
  exact ⟨hcount, Nat.min_le_right _ _, hlow, hhigh⟩

theorem shrink_keeps_resultsSound {rs : List ResultRecord} {s : State} (h : rs.length ≤ s.results.records.length)
    (hs : ResultsSound s) : ResultsSound { s with results.records := rs } := by
  obtain ⟨hcount, hlost, hlow, hhigh⟩ := hs
  exact ⟨h.trans hcount, hlost, hlow, hhigh⟩

theorem found_keeps_resultsSound {s : State} (hs : ResultsSound s) : ResultsSound { s with results.lost := 0 } := by
  obtain ⟨hcount, -, hlow, hhigh⟩ := hs
  exact ⟨hcount, Nat.zero_le _, hlow, hhigh⟩

theorem threshold_keeps_resultsSound {n : Nat} {s : State} (h1 : 1 ≤ n) (h2 : n ≤ 512) (hs : ResultsSound s) :
    ResultsSound { s with results.threshold := n } := by
  obtain ⟨hcount, hlost, -, -⟩ := hs
  exact ⟨hcount, hlost, h1, h2⟩

/-! ### The Sense Front End (R28, R29) -/

theorem senseSound_of_sense {s t : State} (hs : SenseSound s) (h : t.sense = s.sense) : SenseSound t := by
  simpa only [SenseSound, h] using hs

/-- New integrators within full scale leave the rest of the Sense Front End as it was. -/
theorem integrators_keep_senseSound {s t : State} (hs : SenseSound s)
    (hi : ∀ i, t.sense.integrators.get i ≤ 20000000) (hr : t.sense.readings = s.sense.readings)
    (hb : t.sense.baselines = s.sense.baselines) : SenseSound t := by
  intro i
  obtain ⟨-, hread, hbase⟩ := hs i
  exact ⟨hi i, hr ▸ hread, hb ▸ hbase⟩

theorem clearedIntegrators_le (i : Fin 4) : (⟨0, 0, 0, 0⟩ : Quad Nat).get i ≤ 20000000 := by
  fin_cases i <;> exact Nat.zero_le _

theorem latchReadings_keeps_senseSound (c : Quad Nat) {s : State} (hs : SenseSound s) :
    SenseSound (latchReadings c s) := by
  intro i
  obtain ⟨-, -, hbase⟩ := hs i
  have hfull : (integrated c s.sense).integrators.get i ≤ 20000000 := by
    rw [integrated_get]; exact Nat.min_le_left _ _
  rw [latchReadings_sense]
  exact ⟨hfull, by simpa using countOf_le hfull, hbase⟩

theorem baselines_keep_senseSound {q : Quad Nat} {s : State} (h : ∀ i, q.get i ≤ 65535) (hs : SenseSound s) :
    SenseSound { s with sense.baselines := q } := by
  intro i
  obtain ⟨hint, hread, -⟩ := hs i
  exact ⟨hint, hread, h i⟩

theorem takeBaselines_keeps_senseSound (sh : Shot) {s : State} (hs : SenseSound s) :
    SenseSound (takeBaselines sh s) := by
  unfold takeBaselines
  split
  · exact baselines_keep_senseSound (fun i => (hs i).2.1) hs
  · exact hs

theorem passTime_keeps_senseSound {s : State} (hs : SenseSound s) : SenseSound (passTime s) := by
  refine integrators_keep_senseSound hs (fun i => ?_) ?_ ?_
  · show (senseTick s.pins.photocurrents s.sense).integrators.get i ≤ 20000000
    rw [senseTick_get]
    split
    · exact Nat.min_le_left _ _
    · exact (hs i).1
  all_goals
    show _ = _
    simp only [passTime]
    rw [senseTick_eq]

/-! ### Heat (R110, R112, R113, R115) -/

theorem heatsSound_of_channels {s t : State} (hs : HeatsSound s) (h : t.lights.channels = s.lights.channels) :
    HeatsSound t := by
  simpa only [HeatsSound, h] using hs

/-- Channels each made from the channel they replace keep the heat accounts when each does. -/
theorem heatsSound_of_each {s t : State} (hs : HeatsSound s)
    (h : ∀ l, HeatSound (s.lights.channels.get l) → HeatSound (t.lights.channels.get l)) : HeatsSound t :=
  fun l => h l (hs l)

theorem updateLight_keeps_heatsSound {l : Light} {f : LightChannel → LightChannel} {s : State}
    (hf : ∀ c, HeatSound c → HeatSound (f c)) (hs : HeatsSound s) : HeatsSound (updateLight l f s) := by
  refine heatsSound_of_each hs fun j hj => ?_
  show HeatSound ((s.lights.channels.set l (f (s.lights.channels.get l))).get j)
  rw [Octet.get_set]
  split
  · exact hf _ (hs l)
  · exact hj

/-- The charge admitted for a light fits its room (R112, R113). -/
theorem admitted_charge_le_room (c : LightChannel) (duration current least : Nat)
    (h : isFired (judgeOffer c duration current least) = true) :
    chargeOf (admittedDuration (judgeOffer c duration current least)) current ≤ roomOf c := by
  unfold judgeOffer at h ⊢
  split
  · next hroom => exact hroom
  · next hroom =>
    simp only [hroom, if_false] at h ⊢
    split
    · simp only [admittedDuration, clippedDuration, chargeOf]
      calc roomOf c * 1024 / current * current / 1024
          ≤ roomOf c * 1024 / 1024 := Nat.div_le_div_right (Nat.div_mul_le_self _ _)
        _ = roomOf c := Nat.mul_div_cancel _ (by decide)
    · next hno => simp [hno, isFired] at h

/-- Heat after an admission stays within the heat limit or where it was (R112). -/
theorem admitChannel_keeps_heatSound (e : ShotEntry) (l : Light) (r : Regulator) {c : LightChannel}
    (hc : HeatSound c) : HeatSound (admitChannel (offerOf e r).2 (admission e l r c) c) := by
  unfold admitChannel
  split
  · next hfired =>
    obtain ⟨hlow, hhigh, hheat⟩ := hc
    refine ⟨hlow, hhigh, ?_⟩
    unfold admission at hfired ⊢
    split
    · next hoffered =>
      rw [if_pos hoffered] at hfired
      have hroom := admitted_charge_le_room c _ _ _ hfired
      simp only [roomOf] at hroom
      show c.heat + _ ≤ 4000000
      omega
    · next hout => rw [if_neg hout] at hfired; cases hfired
  · exact hc

theorem beginFlash_keeps_heatsSound (sh : Shot) {s : State} (hs : HeatsSound s) : HeatsSound (beginFlash sh s) := by
  refine heatsSound_of_each hs fun l hl => ?_
  simp only [beginFlash, admittedChannels, admissions, Octet.get_ofFn]
  exact admitChannel_keeps_heatSound _ _ _ hl

theorem dutyTimerExpiry_keeps_heatsSound {s : State} (hs : HeatsSound s) : HeatsSound (dutyTimerExpiry s) := by
  unfold dutyTimerExpiry
  split
  · exact hs
  · refine heatsSound_of_each hs fun l hl => ?_
    obtain ⟨hlow, hhigh, hheat⟩ := hl
    simp only [Octet.get_map, coolChannel]
    exact ⟨hlow, hhigh, (Nat.sub_le _ _).trans hheat⟩

theorem reset_heatSound (faulted : Bool) : HeatSound { LightChannel.reset with faulted := faulted } := by
  refine ⟨?_, ?_, ?_⟩ <;> simp [LightChannel.reset]

/-! ### The regulators (R82, R83, R104, R105) -/

/-- A duration is on the band when banding is off or it is a whole number of bands (R83). -/
def OnBand (m : RegLimits) (d : Nat) : Prop := m.bandStep = 0 ∨ m.bandStep ∣ d

/-- Actuators fit the limits when each is within its own and the duration is on the band (R83, R103). -/
theorem forceFits_iff (m : RegLimits) (d c : Nat) : forceFits m d c = true ↔
    (m.durMin ≤ d ∧ d ≤ m.durCeiling ∧ OnBand m d) ∧ m.curFloor ≤ c ∧ c ≤ m.curCeiling := by
  simp only [forceFits, OnBand, Bool.and_eq_true, Bool.or_eq_true, decide_eq_true_eq, Nat.dvd_iff_mod_eq_zero]
  tauto

/-- The conditions of R105 that a regulator's step relies on. -/
theorem limitsValid_facts {m : RegLimits} (h : limitsValid m = true) :
    m.durMin ≤ m.durCeiling ∧ m.curFloor ≤ m.curCeiling ∧ OnBand m m.durMin ∧ OnBand m m.durCeiling := by
  simp only [limitsValid, Bool.and_eq_true, Bool.or_eq_true, decide_eq_true_eq] at h
  simp only [OnBand, Nat.dvd_iff_mod_eq_zero]
  tauto

theorem onBand_min {m : RegLimits} {a b : Nat} (ha : OnBand m a) (hb : OnBand m b) : OnBand m (min a b) := by
  rcases le_total a b with h | h
  · rwa [Nat.min_eq_left h]
  · rwa [Nat.min_eq_right h]

theorem onBand_max {m : RegLimits} {a b : Nat} (ha : OnBand m a) (hb : OnBand m b) : OnBand m (max a b) := by
  rcases le_total a b with h | h
  · rwa [Nat.max_eq_right h]
  · rwa [Nat.max_eq_left h]

/-- The duration increment is a whole number of bands when banding is on (R93). -/
theorem onBand_mul_durIncrement (m : RegLimits) (k : Nat) : OnBand m (k * durIncrement m) := by
  rcases Nat.eq_zero_or_pos m.bandStep with h | h
  · exact .inl h
  · exact .inr (by simp [durIncrement, h])

theorem onBand_add {m : RegLimits} {a b : Nat} (ha : OnBand m a) (hb : OnBand m b) : OnBand m (a + b) := by
  rcases ha with h | ha
  · exact .inl h
  · exact hb.imp_right fun hb => Nat.dvd_add ha hb

theorem onBand_sub {m : RegLimits} {a b : Nat} (ha : OnBand m a) (hb : OnBand m b) : OnBand m (a - b) := by
  rcases ha with h | ha
  · exact .inl h
  · exact hb.imp_right fun hb => Nat.dvd_sub ha hb

theorem onBand_roundDown (m : RegLimits) (d : Nat) : OnBand m (d - d % m.bandStep) :=
  .inr (Nat.dvd_sub_mod d)

theorem onBand_halvedDuration (r : Regulator) : OnBand r.limits (halvedDuration r) := by
  unfold halvedDuration
  simp only
  split
  · exact onBand_roundDown _ _
  · next h => exact .inl (by omega)

theorem halvedDuration_le (r : Regulator) : halvedDuration r ≤ r.duration := by
  unfold halvedDuration
  simp only
  split <;> omega

/-- A regulator's actuators fit its limits (R83). -/
def Fits (r : Regulator) : Prop := forceFits r.limits r.duration r.current = true

/-- From `r` to `r'` a step moved the actuators alone, and they still fit. -/
def MovedWithin (r r' : Regulator) : Prop :=
  r'.mode = r.mode ∧ r'.limits = r.limits ∧ r'.bands = r.bands ∧ Fits r'

section Moves

variable {r : Regulator}

theorem moved_current (hfit : Fits r) {c : Nat} (hlow : r.limits.curFloor ≤ c) (hhigh : c ≤ r.limits.curCeiling) :
    MovedWithin r { r with current := c } :=
  ⟨rfl, rfl, rfl, (forceFits_iff _ _ _).mpr ⟨((forceFits_iff _ _ _).mp hfit).1, hlow, hhigh⟩⟩

theorem moved_duration (hfit : Fits r) {d : Nat} (hlow : r.limits.durMin ≤ d) (hhigh : d ≤ r.limits.durCeiling)
    (hband : OnBand r.limits d) : MovedWithin r { r with duration := d } :=
  ⟨rfl, rfl, rfl, (forceFits_iff _ _ _).mpr ⟨⟨hlow, hhigh, hband⟩, ((forceFits_iff _ _ _).mp hfit).2⟩⟩

/-- A duration raised up to its ceiling (R94, R96). -/
theorem moved_duration_up (hlim : limitsValid r.limits = true) (hfit : Fits r) {d : Nat} (h : r.duration ≤ d)
    (hband : OnBand r.limits d) : MovedWithin r { r with duration := min d r.limits.durCeiling } := by
  obtain ⟨hdur, -, -, hceil⟩ := limitsValid_facts hlim
  obtain ⟨⟨hlow, -, -⟩, -⟩ := (forceFits_iff _ _ _).mp hfit
  exact moved_duration hfit (Nat.le_min.mpr ⟨hlow.trans h, hdur⟩) (Nat.min_le_right _ _) (onBand_min hband hceil)

/-- A duration lowered down to its minimum (R95, R97). -/
theorem moved_duration_down (hlim : limitsValid r.limits = true) (hfit : Fits r) {d : Nat} (h : d ≤ r.duration)
    (hband : OnBand r.limits d) : MovedWithin r { r with duration := max d r.limits.durMin } := by
  obtain ⟨hdur, -, hmin, -⟩ := limitsValid_facts hlim
  obtain ⟨⟨-, hhigh, -⟩, -⟩ := (forceFits_iff _ _ _).mp hfit
  exact moved_duration hfit (Nat.le_max_right _ _) (Nat.max_le.mpr ⟨h.trans hhigh, hdur⟩) (onBand_max hband hmin)

/-- A current raised up to its ceiling (R94, R96). -/
theorem moved_current_up (hlim : limitsValid r.limits = true) (hfit : Fits r) {c : Nat} (h : r.current ≤ c) :
    MovedWithin r { r with current := min c r.limits.curCeiling } := by
  obtain ⟨-, hcur, -⟩ := limitsValid_facts hlim
  obtain ⟨-, hlow, -⟩ := (forceFits_iff _ _ _).mp hfit
  exact moved_current hfit (Nat.le_min.mpr ⟨hlow.trans h, hcur⟩) (Nat.min_le_right _ _)

/-- A current lowered down to its floor (R95, R97). -/
theorem moved_current_down (hlim : limitsValid r.limits = true) (hfit : Fits r) {c : Nat} (h : c ≤ r.current) :
    MovedWithin r { r with current := max c r.limits.curFloor } := by
  obtain ⟨-, hcur, -⟩ := limitsValid_facts hlim
  obtain ⟨-, -, hhigh⟩ := (forceFits_iff _ _ _).mp hfit
  exact moved_current hfit (Nat.le_max_right _ _) (Nat.max_le.mpr ⟨h.trans hhigh, hcur⟩)

theorem fits_onBand (hfit : Fits r) : OnBand r.limits r.duration := ((forceFits_iff _ _ _).mp hfit).1.2.2

theorem fastBrighter_moves (hlim : limitsValid r.limits = true) (hfit : Fits r) :
    MovedWithin r (fastBrighter r) := by
  unfold fastBrighter
  split
  · have hband := onBand_add (fits_onBand hfit) (fits_onBand hfit)
    exact moved_duration_up hlim hfit (by omega) (by rwa [two_mul])
  · exact moved_current_up hlim hfit (by split <;> omega)

theorem fastDarker_moves (hlim : limitsValid r.limits = true) (hfit : Fits r) :
    MovedWithin r (fastDarker r) := by
  unfold fastDarker
  split
  · exact moved_current_down hlim hfit (Nat.div_le_self _ _)
  · exact moved_duration_down hlim hfit (halvedDuration_le r) (onBand_halvedDuration r)

theorem normalBrighter_moves (hlim : limitsValid r.limits = true) (hfit : Fits r) (f : Nat) :
    MovedWithin r (normalBrighter r f) := by
  unfold normalBrighter
  split
  · exact moved_current_up hlim hfit (Nat.le_add_right _ _)
  · split
    · exact moved_duration_up hlim hfit (Nat.le_add_right _ _)
        (onBand_add (fits_onBand hfit) (onBand_mul_durIncrement _ _))
    · exact moved_current_up hlim hfit (Nat.le_add_right _ _)

theorem normalDarker_moves (hlim : limitsValid r.limits = true) (hfit : Fits r) (f : Nat) :
    MovedWithin r (normalDarker r f) := by
  unfold normalDarker
  split
  · exact moved_current_down hlim hfit (Nat.sub_le _ _)
  · exact moved_duration_down hlim hfit (Nat.sub_le _ _)
      (onBand_sub (fits_onBand hfit) (onBand_mul_durIncrement _ _))

end Moves

/-- A sound AUTO regulator stays sound when its state becomes another of AUTO's (R82). -/
theorem regulatorSound_of_state {r : Regulator} (hr : RegulatorSound r) {st : RegState}
    (hst : stateFitsMode r.mode st = true) : RegulatorSound { r with state := st } :=
  ⟨hst, hr.2.1, hr.2.2.1, hr.2.2.2⟩

/-- A sound AUTO regulator that moved its actuators within the limits and is CONVERGING is sound (R91, R92). -/
theorem regulatorSound_of_moved {r r' : Regulator} (hr : RegulatorSound r) (hauto : r.mode = .auto)
    (h : MovedWithin r r') : RegulatorSound { r' with state := .converging } := by
  obtain ⟨-, hlim, hbands, -⟩ := hr
  obtain ⟨hmode, hl, hb, hfit⟩ := h
  exact ⟨by rw [show r'.mode = .auto from hmode.trans hauto]; rfl, hl ▸ hlim, hb ▸ hbands, hfit⟩

theorem brighterStep_keeps_sound {r : Regulator} (hr : RegulatorSound r) (hauto : r.mode = .auto) (f : Nat) :
    RegulatorSound (brighterStep r f) := by
  obtain ⟨-, hlim, -, hfit⟩ := id hr
  unfold brighterStep
  split
  · exact regulatorSound_of_state hr (by rw [hauto]; rfl)
  · split
    · exact regulatorSound_of_moved hr hauto (fastBrighter_moves hlim hfit)
    · exact regulatorSound_of_moved hr hauto (normalBrighter_moves hlim hfit f)

theorem darkerStep_keeps_sound {r : Regulator} (hr : RegulatorSound r) (hauto : r.mode = .auto) (f : Nat) :
    RegulatorSound (darkerStep r f) := by
  obtain ⟨-, hlim, -, hfit⟩ := id hr
  unfold darkerStep
  split
  · exact regulatorSound_of_state hr (by rw [hauto]; rfl)
  · split
    · exact regulatorSound_of_moved hr hauto (fastDarker_moves hlim hfit)
    · exact regulatorSound_of_moved hr hauto (normalDarker_moves hlim hfit f)

/-- A regulator that steps goes brighter, goes darker, stays or becomes STABLE (R90). -/
theorem stepOn_keeps_sound {r : Regulator} (hr : RegulatorSound r) (hauto : r.mode = .auto) (f : Nat) :
    RegulatorSound (stepOn r f) := by
  unfold stepOn
  split
  · split
    · exact brighterStep_keeps_sound hr hauto f
    · split
      · exact darkerStep_keeps_sound hr hauto f
      · exact hr
  · split
    · exact brighterStep_keeps_sound hr hauto f
    · split
      · exact darkerStep_keeps_sound hr hauto f
      · exact regulatorSound_of_state hr (by rw [hauto]; rfl)

theorem closeRegulator_keeps_sound {r : Regulator} (hr : RegulatorSound r) : RegulatorSound (closeRegulator r) := by
  unfold closeRegulator
  split
  · next h => exact stepOn_keeps_sound hr h.1 _
  · exact hr

theorem runResetRegulator_keeps_sound {r : Regulator} (hr : RegulatorSound r) :
    RegulatorSound (runResetRegulator r) := by
  unfold runResetRegulator
  simp only
  split
  · next h => exact regulatorSound_of_state (r := clearAccumulator r) hr (by simp only [clearAccumulator, h]; rfl)
  · exact hr

theorem takeFigure_keeps_sound (a b : Quad Nat) {r : Regulator} (hr : RegulatorSound r) :
    RegulatorSound (takeFigure a b r) := by
  unfold takeFigure
  split
  · exact hr
  · split <;> exact hr

theorem takeClip_keeps_sound {r : Regulator} (hr : RegulatorSound r) : RegulatorSound (takeClip r) := by
  unfold takeClip
  split <;> exact hr

theorem withMode_keeps_sound (m : RegMode) {r : Regulator} (hr : RegulatorSound r) :
    RegulatorSound (withMode m r) := by
  obtain ⟨-, hlim, hbands, hfit⟩ := hr
  cases m <;> exact ⟨rfl, hlim, hbands, hfit⟩

theorem withActuators_keeps_sound {d c : Nat} {r : Regulator} (h : forceFits r.limits d c = true)
    (hr : RegulatorSound r) : RegulatorSound (withActuators d c r) := by
  obtain ⟨hst, hlim, hbands, -⟩ := hr
  unfold withActuators
  simp only
  split
  · next hauto => exact ⟨by simp only [hauto]; rfl, hlim, hbands, h⟩
  · exact ⟨hst, hlim, hbands, h⟩

theorem clampTo_bounds {low high : Nat} (h : low ≤ high) (n : Nat) :
    low ≤ clampTo low high n ∧ clampTo low high n ≤ high := by
  unfold clampTo; omega

/-- R106's clamping and rounding put the actuators within legal limits (R83). -/
theorem withLimits_keeps_sound {m : RegLimits} (hm : limitsValid m = true) {r : Regulator}
    (hr : RegulatorSound r) : RegulatorSound (withLimits m r) := by
  obtain ⟨hst, -, hbands, -⟩ := hr
  obtain ⟨hdur, hcur, hmin, -⟩ := limitsValid_facts hm
  obtain ⟨hlow, hhigh⟩ := clampTo_bounds hdur r.duration
  refine ⟨hst, hm, hbands, (forceFits_iff _ _ _).mpr ⟨?_, clampTo_bounds hcur r.current⟩⟩
  simp only [withLimits, onBand]
  split
  · exact ⟨Nat.le_max_right _ _, Nat.max_le.mpr ⟨(Nat.sub_le _ _).trans hhigh, hdur⟩,
      onBand_max (onBand_roundDown _ _) hmin⟩
  · next h => exact ⟨hlow, hhigh, .inl (by omega)⟩

theorem reset_regulatorSound : RegulatorSound Regulator.reset := by decide

/-- Every regulator put through a function that keeps it sound (R83). -/
theorem updateRegs_keeps_regulatorsSound {f : Regulator → Regulator} (hf : ∀ r, RegulatorSound r → RegulatorSound (f r))
    {s : State} (hs : RegulatorsSound s) : RegulatorsSound (updateRegs f s) := by
  intro l
  simp only [updateRegs, Octet.get_map]
  exact hf _ (hs l)

/-- One regulator put through a function that keeps it sound (R83). -/
theorem updateReg_keeps_regulatorsSound {l : Light} {f : Regulator → Regulator} {s : State}
    (hf : RegulatorSound (s.regs.get l) → RegulatorSound (f (s.regs.get l))) (hs : RegulatorsSound s) :
    RegulatorsSound (updateReg l f s) := by
  intro j
  simp only [updateReg, Octet.get_set]
  split
  · exact hf (hs l)
  · exact hs j

theorem regulatorsSound_of_regs {s t : State} (hs : RegulatorsSound s) (h : t.regs = s.regs) : RegulatorsSound t := by
  simpa only [RegulatorsSound, h] using hs

/-! ### The five invariants together -/

/-- From `s` to `t` each of the five block invariants that held still holds. -/
structure BlocksKept (s t : State) : Prop where
  regs : RegulatorsSound s → RegulatorsSound t
  heats : HeatsSound s → HeatsSound t
  table : TableSound s → TableSound t
  results : ResultsSound s → ResultsSound t
  sense : SenseSound s → SenseSound t

namespace BlocksKept

theorem refl (s : State) : BlocksKept s s := ⟨id, id, id, id, id⟩

theorem trans {s t u : State} (h : BlocksKept s t) (g : BlocksKept t u) : BlocksKept s u :=
  ⟨g.regs ∘ h.regs, g.heats ∘ h.heats, g.table ∘ h.table, g.results ∘ h.results, g.sense ∘ h.sense⟩

/-- An update that leaves the five blocks alone. -/
theorem of_same {s t : State} (ht : t.table = s.table) (hr : t.regs = s.regs) (hl : t.lights = s.lights)
    (hq : t.results = s.results) (hf : t.sense = s.sense) : BlocksKept s t :=
  ⟨fun h => regulatorsSound_of_regs h hr, fun h => heatsSound_of_channels h (hl ▸ rfl),
   fun h => tableSound_of_table h ht, fun h => resultsSound_of_results h hq, fun h => senseSound_of_sense h hf⟩

theorem of_onlyStage {s t : State} (h : OnlyStage s t) : BlocksKept s t := by
  obtain ⟨u, rfl⟩ := h
  exact of_same rfl rfl rfl rfl rfl

/-- An update of the regulators that keeps them sound. -/
theorem of_regs {s t : State} (h : RegulatorsSound s → RegulatorsSound t) (ht : t.table = s.table)
    (hl : t.lights = s.lights) (hq : t.results = s.results) (hf : t.sense = s.sense) : BlocksKept s t :=
  ⟨h, fun h => heatsSound_of_channels h (hl ▸ rfl), fun h => tableSound_of_table h ht,
   fun h => resultsSound_of_results h hq, fun h => senseSound_of_sense h hf⟩

/-- An update of the light channels that keeps their heat accounts sound. -/
theorem of_lights {s t : State} (h : HeatsSound s → HeatsSound t) (ht : t.table = s.table)
    (hr : t.regs = s.regs) (hq : t.results = s.results) (hf : t.sense = s.sense) : BlocksKept s t :=
  ⟨fun h => regulatorsSound_of_regs h hr, h, fun h => tableSound_of_table h ht,
   fun h => resultsSound_of_results h hq, fun h => senseSound_of_sense h hf⟩

/-- An update of the Shot Table that keeps it sound. -/
theorem of_table {s t : State} (h : TableSound s → TableSound t) (hr : t.regs = s.regs)
    (hl : t.lights = s.lights) (hq : t.results = s.results) (hf : t.sense = s.sense) : BlocksKept s t :=
  ⟨fun h => regulatorsSound_of_regs h hr, fun h => heatsSound_of_channels h (hl ▸ rfl), h,
   fun h => resultsSound_of_results h hq, fun h => senseSound_of_sense h hf⟩

/-- An update of the Result Queue that keeps it sound. -/
theorem of_results {s t : State} (h : ResultsSound s → ResultsSound t) (ht : t.table = s.table)
    (hr : t.regs = s.regs) (hl : t.lights = s.lights) (hf : t.sense = s.sense) : BlocksKept s t :=
  ⟨fun h => regulatorsSound_of_regs h hr, fun h => heatsSound_of_channels h (hl ▸ rfl),
   fun h => tableSound_of_table h ht, h, fun h => senseSound_of_sense h hf⟩

/-- An update of the Sense Front End that keeps it sound. -/
theorem of_sense {s t : State} (h : SenseSound s → SenseSound t) (ht : t.table = s.table) (hr : t.regs = s.regs)
    (hl : t.lights = s.lights) (hq : t.results = s.results) : BlocksKept s t :=
  ⟨fun h => regulatorsSound_of_regs h hr, fun h => heatsSound_of_channels h (hl ▸ rfl),
   fun h => tableSound_of_table h ht, fun h => resultsSound_of_results h hq, h⟩

/-! ### Each block's own updates -/

theorem putShot {i : Nat} {e : ShotEntry} {s t : State} (he : entryValid e = true)
    (h : putShot i e s = some t) (hi : i ≤ 127) : BlocksKept s t := by
  have hsame := putShot_onlyTable h
  refine of_table (putShot_keeps_tableSound he h hi) ?_ ?_ ?_ ?_ <;> obtain ⟨u, rfl⟩ := hsame <;> rfl

theorem takeBaselines (sh : Shot) (s : State) : BlocksKept s (takeBaselines sh s) := by
  refine of_sense (takeBaselines_keeps_senseSound sh) ?_ ?_ ?_ ?_ <;> unfold Machine.takeBaselines <;> split <;> rfl

theorem lightOff (l : Light) (s : State) : BlocksKept s (lightOff l s) :=
  of_lights (updateLight_keeps_heatsSound (f := channelOff) fun _ hc => hc) rfl rfl rfl rfl

theorem allLightsOff (s : State) : BlocksKept s (allLightsOff s) :=
  of_lights (fun h => heatsSound_of_each h fun l hl => by simpa [Machine.allLightsOff, channelOff] using hl)
    rfl rfl rfl rfl

theorem latchReadings (c : Quad Nat) (s : State) : BlocksKept s (latchReadings c s) :=
  (allLightsOff s).trans (of_sense (fun h => latchReadings_keeps_senseSound c (s := s) h) rfl rfl rfl rfl)

theorem putRegMode (l : Light) (m : RegMode) (s : State) : BlocksKept s (putRegMode l m s) := by
  have hmode : BlocksKept s (updateReg l (withMode m) s) :=
    of_regs (updateReg_keeps_regulatorsSound (withMode_keeps_sound m)) rfl rfl rfl rfl
  unfold Machine.putRegMode
  simp only
  split
  · exact hmode.trans (lightOff l _)
  · exact hmode

theorem putRegForce {l : Light} {d c : Nat} {s t : State} (h : putRegForce l d c s = some t) : BlocksKept s t := by
  obtain ⟨hfit, rfl⟩ := putRegForce_cases h
  exact of_regs (updateReg_keeps_regulatorsSound (withActuators_keeps_sound hfit)) rfl rfl rfl rfl

theorem clearFault (l : Light) (s : State) : BlocksKept s (clearFault l s) := by
  have hfault : BlocksKept s (updateLight l (fun c => { c with faulted := false }) s) :=
    of_lights (updateLight_keeps_heatsSound fun _ hc => hc) rfl rfl rfl rfl
  unfold Machine.clearFault
  split
  · refine hfault.trans (of_regs (updateReg_keeps_regulatorsSound fun hr => ?_) rfl rfl rfl rfl)
    split
    · next hauto => exact regulatorSound_of_state hr (by rw [hauto]; rfl)
    · exact hr
  · exact refl s

theorem beginFlash (sh : Shot) (s : State) : BlocksKept s (beginFlash sh s) where
  regs h := h
  heats h := beginFlash_keeps_heatsSound sh h
  table h := h
  results h := h
  sense h := integrators_keep_senseSound h clearedIntegrators_le rfl rfl

theorem passTime (s : State) : BlocksKept s (passTime s) where
  regs h := h
  heats h := heatsSound_of_each h fun l hl => by simpa [Machine.passTime] using hl
  table h := h
  results h := h
  sense h := passTime_keeps_senseSound h

theorem startLights (s : State) : BlocksKept s (startLights s) :=
  of_lights (fun _ l => by simpa [Machine.startLights, lightAtCompletion] using reset_heatSound _) rfl rfl rfl rfl

theorem fullReset (c : ResetCause) (s t : State) : BlocksKept t (fullReset c s) where
  regs _ := fun l => by simpa [Machine.fullReset] using reset_regulatorSound
  heats _ := fun l => by simpa [Machine.fullReset, LightUnit.reset] using reset_heatSound false
  table _ := ⟨Nat.zero_le _, by simp [Machine.fullReset, ShotTable.reset]⟩
  results _ := by simp [ResultsSound, Machine.fullReset, ResultQueue.reset, ResultQueue.count]
  sense _ := fun i => by fin_cases i <;> simp [Machine.fullReset, SenseFrontEnd.reset, Quad.get]

/-- Every block's own updates keep the five invariants. -/
theorem kept (s₀ : State) : KeptByBlocks (BlocksKept s₀) where
  free h ht hr hl _ hq hf := h.trans (of_same ht hr hl hq hf)
  latch c s h := h.trans (latchReadings c s)
  takeBaselines sh s h := h.trans (takeBaselines sh s)
  stopSense s h := h.trans (of_sense id rfl rfl rfl rfl)
  clearSense s h := h.trans
    (of_sense (fun h => integrators_keep_senseSound h clearedIntegrators_le rfl rfl) rfl rfl rfl rfl)
  senseSet q s hq h := h.trans (of_sense (baselines_keep_senseSound hq) rfl rfl rfl rfl)
  putShot i e s t he ht hi h := h.trans (putShot he ht hi)
  putSeqStart i s t ht h := by
    obtain ⟨-, rfl⟩ := putSeqStart_cases ht
    exact h.trans (of_table id rfl rfl rfl rfl)
  tableClear s h := h.trans (of_table (fun _ => ⟨Nat.zero_le _, by simp⟩) rfl rfl rfl rfl)
  closeRegs s h := h.trans
    (of_regs (updateRegs_keeps_regulatorsSound fun _ => closeRegulator_keeps_sound) rfl rfl rfl rfl)
  clearRegs s h := h.trans
    (of_regs (updateRegs_keeps_regulatorsSound (f := clearAccumulator) fun _ hr => hr) rfl rfl rfl rfl)
  resetRegs s h := h.trans
    (of_regs (updateRegs_keeps_regulatorsSound fun _ => runResetRegulator_keeps_sound) rfl rfl rfl rfl)
  figure l a b s h := h.trans
    (of_regs (updateReg_keeps_regulatorsSound (takeFigure_keeps_sound a b)) rfl rfl rfl rfl)
  clip l s h := h.trans (of_regs (updateReg_keeps_regulatorsSound takeClip_keeps_sound) rfl rfl rfl rfl)
  regMode l m s h := h.trans (putRegMode l m s)
  regForce l d c s t ht h := h.trans (putRegForce ht)
  regBands l b s hb h := h.trans
    (of_regs (updateReg_keeps_regulatorsSound fun ⟨hst, hlim, _, hfit⟩ => ⟨hst, hlim, hb, hfit⟩) rfl rfl rfl rfl)
  regLimits l m s hm h := h.trans (of_regs (updateReg_keeps_regulatorsSound (withLimits_keeps_sound hm)) rfl rfl rfl rfl)
  clearFault l s h := h.trans (clearFault l s)
  lightDuty l a b s ha ha' _ h := h.trans
    (of_lights (updateLight_keeps_heatsSound fun _ ⟨_, _, hheat⟩ => ⟨ha, ha', hheat⟩) rfl rfl rfl rfl)
  lightOff l s h := h.trans (lightOff l s)
  allLightsOff s h := h.trans (allLightsOff s)
  beginFlash sh s h := h.trans (beginFlash sh s)
  cool s h := h.trans (of_lights dutyTimerExpiry_keeps_heatsSound (by unfold dutyTimerExpiry; split <;> rfl)
    (by unfold dutyTimerExpiry; split <;> rfl) (by unfold dutyTimerExpiry; split <;> rfl)
    (by unfold dutyTimerExpiry; split <;> rfl))
  setFaulted l s h := h.trans (of_lights (updateLight_keeps_heatsSound fun _ hc => hc) rfl rfl rfl rfl)
  passTime s h := h.trans (passTime s)
  startLights s h := h.trans (startLights s)
  append r s hc h := h.trans (of_results (append_keeps_resultsSound r hc) rfl rfl rfl rfl)
  lose s h := h.trans (of_results lose_keeps_resultsSound rfl rfl rfl rfl)
  shrink rs s hc h := h.trans (of_results (shrink_keeps_resultsSound hc) rfl rfl rfl rfl)
  found s h := h.trans (of_results found_keeps_resultsSound rfl rfl rfl rfl)
  threshold n s h1 h2 h := h.trans (of_results (threshold_keeps_resultsSound h1 h2) rfl rfl rfl rfl)
  capture b c p s _ _ h := h.trans (of_onlyStage (capture_onlyStage b c p s))
  stageOpen p s h := h.trans (of_onlyStage (takeStageOpen_onlyStage p s))
  stageClose p s h := h.trans (of_onlyStage (takeStageClose_onlyStage p s))
  stageDrop p s h := h.trans (of_onlyStage (takeStageDrop_onlyStage p s))
  stageLayout p s h := h.trans (of_onlyStage (takeStageLayout_onlyStage p s))
  stageAlternate p s h := h.trans (of_onlyStage (takeStageAlternate_onlyStage p s))
  pend b s _ _ h := h.trans (of_onlyStage (setBank_onlyStage _ _ s))
  applied b s _ h := h.trans (of_onlyStage (setBank_onlyStage _ _ s))
  turn r s _ h := h.trans (of_onlyStage ⟨_, rfl⟩)
  resetStage s h := h.trans (of_onlyStage ⟨_, rfl⟩)
  fullReset c s := fullReset c s s₀

/-- Every step keeps each of the five block invariants. -/
theorem step {s t : State} (h : step s = .next t) : BlocksKept s t :=
  (kept s).kept.step (refl s) h

end BlocksKept

end Sys2Proof.BlocksProofs
end

section
/-!
PROOFS. What the run leaves alone: no event of a run, a cycle or a shot touches the supply, the sync watch or the
levels of the fault lines, or clears a latched fault. So the supply, the sync watch and the fault latches stay sound.
-/

namespace Sys2Proof.BlocksProofs

open Sys2Proof.Machine Sys2Proof.Safety

/-- From `s` to `t` the supply, the sync watch, the fault lines and the reset cause stayed as they were, and every
latched fault stayed latched. -/
structure Steady (s t : State) : Prop where
  supply : t.supply = s.supply
  syncOk : t.lock.syncOk = s.lock.syncOk
  watch : t.lock.watch = s.lock.watch
  lines : t.pins.faultLines = s.pins.faultLines
  resetCause : t.resetCause = s.resetCause
  latched : ∀ l, (s.lights.channels.get l).faulted = true → (t.lights.channels.get l).faulted = true

namespace Steady

theorem refl (s : State) : Steady s s := ⟨rfl, rfl, rfl, rfl, rfl, fun _ => id⟩

theorem trans {s t u : State} (h : Steady s t) (g : Steady t u) : Steady s u :=
  ⟨g.supply.trans h.supply, g.syncOk.trans h.syncOk, g.watch.trans h.watch, g.lines.trans h.lines,
   g.resetCause.trans h.resetCause, fun l => g.latched l ∘ h.latched l⟩

theorem cond {s a b : State} {c : Prop} [Decidable c] (ha : Steady s a) (hb : Steady s b) :
    Steady s (if c then a else b) := by
  split <;> assumption

/-- An update of none of these parts. -/
theorem of_same {s t : State}
    (h : (t.supply, t.lock.syncOk, t.lock.watch, t.pins.faultLines, t.resetCause, t.lights) =
      (s.supply, s.lock.syncOk, s.lock.watch, s.pins.faultLines, s.resetCause, s.lights)) : Steady s t := by
  simp only [Prod.mk.injEq] at h
  obtain ⟨h1, h2, h3, h4, h5, h6⟩ := h
  exact ⟨h1, h2, h3, h4, h5, fun _ => by rw [h6]; exact id⟩

/-- The same with such an update before it. -/
theorem after {s t u : State} (g : Steady t u)
    (h : (t.supply, t.lock.syncOk, t.lock.watch, t.pins.faultLines, t.resetCause, t.lights) =
      (s.supply, s.lock.syncOk, s.lock.watch, s.pins.faultLines, s.resetCause, s.lights)) : Steady s u :=
  (of_same h).trans g

/-- The same with such an update behind it. -/
theorem upd {s t u : State} (g : Steady s t)
    (h : (u.supply, u.lock.syncOk, u.lock.watch, u.pins.faultLines, u.resetCause, u.lights) =
      (t.supply, t.lock.syncOk, t.lock.watch, t.pins.faultLines, t.resetCause, t.lights)) : Steady s u :=
  g.trans (of_same h)

/-- An update of the light channels alone that latches every fault that was latched. -/
theorem of_channels {s : State} {u : LightUnit}
    (h : ∀ l, (s.lights.channels.get l).faulted = true → (u.channels.get l).faulted = true) :
    Steady s { s with lights := u } :=
  ⟨rfl, rfl, rfl, rfl, rfl, h⟩

theorem updateLight {f : LightChannel → LightChannel} (hf : ∀ c, c.faulted = true → (f c).faulted = true)
    (l : Light) (s : State) : Steady s (updateLight l f s) := by
  refine of_channels fun j hj => ?_
  simp only [Octet.get_set]
  split
  · next h => exact hf _ (h ▸ hj)
  · exact hj

theorem lightOff (l : Light) (s : State) : Steady s (lightOff l s) :=
  updateLight (f := channelOff) (fun _ => id) l s

theorem allLightsOff (s : State) : Steady s (allLightsOff s) :=
  of_channels fun l h => by simpa [channelOff] using h

theorem raise (k : ReportKind) (p : List Byte) (s : State) : Steady s (raise k p s) := by
  rw [raise_eq]; exact of_same rfl

theorem changeRun (r : RunState) (c : RunCause) (s : State) : Steady s (changeRun r c s) := by
  rw [changeRun_eq]; exact of_same rfl

/-! ### The run -/

theorem startEvent (s : State) : Steady s (startEvent s) :=
  (changeRun _ _ (openRun s)).after rfl

theorem gateCheck (s : State) : Steady s (gateCheck s) := cond (startEvent s) (refl s)

theorem armRun (s : State) : Steady s (armRun s) := (changeRun _ _ s).trans (gateCheck _)

theorem runEnd (s : State) : Steady s (runEnd s) := by
  have hclose : Steady s (closeRun s) := of_same rfl
  exact cond ((hclose.trans (changeRun _ _ _)).trans (gateCheck _)) (hclose.trans (changeRun _ _ _))

theorem runEndCheck (s : State) : Steady s (runEndCheck s) := cond (runEnd s) (refl s)

theorem goIdle (c : RunCause) (s : State) : Steady s (goIdle c s) := cond (refl s) (changeRun _ _ s)

/-! ### Applying a bank -/

theorem putRegMode (l : Light) (m : RegMode) (s : State) : Steady s (putRegMode l m s) := by
  have hmode : Steady s (updateReg l (withMode m) s) := of_same rfl
  exact cond (hmode.trans (lightOff l _)) hmode

theorem applyRecord {r : StageRecord} {s t : State} (h : applyRecord r s = some t) : Steady s t := by
  rcases applyRecord_cases h with ⟨_, _, _, h⟩ | ⟨_, h⟩ | ⟨_, _, rfl⟩ | ⟨_, _, _, h⟩ | ⟨_, _, _, rfl⟩ |
    ⟨_, _, _, rfl⟩ | ⟨_, _, _, _, rfl⟩
  · obtain ⟨u, rfl⟩ := putShot_onlyTable h
    exact of_same rfl
  · obtain ⟨-, rfl⟩ := putSeqStart_cases h
    exact of_same rfl
  · exact putRegMode _ _ s
  · obtain ⟨-, rfl⟩ := putRegForce_cases h
    exact of_same rfl
  · exact of_same rfl
  · exact of_same rfl
  · exact updateLight (by exact fun _ => id) _ s

theorem applyBank (b : Fin 4) (s : State) : Steady s (applyBank b s).state :=
  .trans (applyRecords_keep (P := Steady s) (fun _ _ _ h hs => hs.trans (applyRecord h)) _ ⟨s, 0, 0⟩ (refl s))
    (raise _ _ _)

theorem applyDueBanks (s : State) : Steady s (applyDueBanks s) :=
  applyDueBanks_keep (P := Steady s) (fun b t h => h.trans (applyBank b t))
    (fun _ _ h => h.upd rfl) (refl s)

/-! ### Shots and cycles -/

theorem beginFlash (sh : Shot) (s : State) : Steady s (beginFlash sh s) := by
  refine ⟨rfl, rfl, rfl, rfl, rfl, fun l h => ?_⟩
  simp only [Machine.beginFlash, admittedChannels, Octet.get_ofFn, admitChannel]
  split <;> exact h

theorem flashStart (s : State) : Steady s (flashStart s) := by
  unfold Machine.flashStart
  split
  · exact cond (beginFlash _ s) (refl s)
  · exact refl s

theorem startShot (i : Nat) (test : Bool) (s : State) : Steady s (startShot i test s) := by
  unfold Machine.startShot
  split
  · exact refl s
  · next e _ =>
    have hlead : Steady s (enterLead i e test s) := of_same rfl
    exact cond (hlead.trans (flashStart _)) hlead

theorem cycleBegin (s : State) : Steady s (cycleBegin s) := by
  unfold Machine.cycleBegin
  have hnumber : Steady s { s with seq.cycleNumber := wrap32 s.seq.cycleNumber, seq.position := 0 } := of_same rfl
  refine .trans ?_ (startShot _ _ _)
  exact (hnumber.trans (applyDueBanks _)).upd rfl

theorem openCycle (s : State) : Steady s (openCycle s) := by
  have hrecord : Steady s (openRecord s) := of_same rfl
  refine cond (cond ?_ ?_) (hrecord.trans (cycleBegin _))
  · exact hrecord.upd rfl
  · refine .trans ?_ (cycleBegin _)
    exact hrecord.upd rfl

theorem quietSequencer (s : State) : Steady s (quietSequencer s) := of_same rfl

theorem closeCycle (s : State) : Steady s (closeCycle s) := by
  have hregs : Steady s (updateRegs closeRegulator s) := of_same rfl
  unfold Machine.closeCycle
  exact ((hregs.trans (raise _ _ _)).trans (quietSequencer _)).trans (runEndCheck _)

theorem nextShot (s : State) : Steady s (nextShot s) :=
  (startShot _ _ _).after rfl

theorem handOffCycle (sh : Shot) (s : State) : Steady s (handOffCycle sh s) := by
  have hreg : ∀ l f t, Steady t (updateReg l f t) := fun _ _ _ => of_same rfl
  refine cond (refl s) ?_
  unfold handOff
  split
  · exact refl s
  · next l _ =>
    have hfigure := cond (c := givesFigure sh l = true)
      (hreg l (takeFigure s.sense.readings s.sense.baselines) s) (refl s)
    exact cond (hfigure.trans (hreg _ _ _)) hfigure

theorem offerRecord (r : ResultRecord) (s : State) : Steady s (offerRecord r s) := by
  have hadd : Steady s { s with results.records := s.results.records ++ [r] } := of_same rfl
  exact cond (cond (hadd.trans (raise _ _ _)) hadd) (of_same rfl)

theorem tailEnd (s : State) : Steady s (tailEnd s) := by
  unfold Machine.tailEnd
  split
  · exact cond (of_same rfl) (refl s)
  · exact refl s

theorem takeBaselines (sh : Shot) (s : State) : Steady s (takeBaselines sh s) :=
  cond (of_same rfl) (refl s)

theorem noteClipped (sh : Shot) (s : State) : Steady s (noteClipped sh s) :=
  cond (of_same rfl) (refl s)

theorem latchReadings (c : Quad Nat) (s : State) : Steady s (latchReadings c s) :=
  (allLightsOff s).upd rfl

theorem recordShot (sh : Shot) (m : LineSet) (s : State) : Steady s (recordShot sh m s) :=
  cond (refl s) (offerRecord _ s)

theorem enterPhase (sh : Shot) (ph : Phase) (n : Nat) (s : State) : Steady s (enterPhase sh ph n s) := of_same rfl

theorem finishFlash (c : Quad Nat) (m : LineSet) (sh : Shot) (s : State) : Steady s (finishFlash c m sh s) := by
  have hlatch : Steady s (Machine.takeBaselines sh (Machine.latchReadings c s)) :=
    (latchReadings c s).trans (takeBaselines sh _)
  have hrecord := (hlatch.trans (handOffCycle sh _)).trans (recordShot sh m _)
  have hphase := (hrecord.trans (noteClipped sh _)).trans (enterPhase sh .tail sh.entry.tail _)
  exact cond (hphase.trans (tailEnd _)) hphase

theorem flashEnd (c : Quad Nat) (m : LineSet) (s : State) : Steady s (flashEnd c m s) := by
  unfold Machine.flashEnd
  split
  · exact cond (finishFlash _ _ _ s) (refl s)
  · exact refl s

theorem suspendCycle (s : State) : Steady s (suspendCycle s) := by
  have hsuspend : Steady s { s with seq.state := .suspended, seq.shot := none } := of_same rfl
  exact hsuspend.trans (changeRun _ _ _)

theorem gapEnd (s : State) : Steady s (gapEnd s) := by
  unfold Machine.gapEnd
  split
  · refine cond (cond (of_same rfl) ?_) (refl s)
    have hcount : Steady s { s with seq.shotsRun := s.seq.shotsRun + 1 } := of_same rfl
    exact hcount.trans (cond (suspendCycle _) (cond (closeCycle _) (nextShot _)))
  · exact refl s

theorem resume (s : State) : Steady s (resume s) :=
  (changeRun _ _ s).trans (cond (closeCycle _) (nextShot _))

theorem stopSequencer (s : State) : Steady s (stopSequencer s) :=
  (allLightsOff s).upd rfl

theorem discardCycle (n k : Nat) (s : State) : Steady s (discardCycle n k s) := by
  unfold Machine.discardCycle
  exact (raise _ _ _).after rfl

theorem abortSequencer (s : State) : Steady s (abortSequencer s) := by
  have hstop := stopSequencer s
  unfold Machine.abortSequencer
  split
  · exact hstop.trans (discardCycle _ _ _)
  · exact hstop.trans (discardCycle _ _ _)
  · exact hstop.trans (discardCycle _ _ _)
  · exact hstop
  · exact hstop

/-! ### Stops, cycle sources and triggers -/

theorem stopEvent (k : StopKind) (s : State) : Steady s (stopEvent k s) := by
  have hnote : Steady s (noteStop k s) := of_same rfl
  unfold Machine.stopEvent
  split
  · exact refl s
  · exact refl s
  · exact hnote.trans (runEnd _)
  · exact (hnote.trans (changeRun _ _ _)).trans (runEndCheck _)
  · exact refl s
  · have hshort : Steady s { noteStop k s with seq.flags.short := true } := hnote.upd rfl
    exact ((hshort.trans (closeCycle _)).trans (changeRun _ _ _)).trans (runEndCheck _)

theorem acceptCycle (s : State) : Steady s (acceptCycle s) :=
  (openCycle _).after rfl

theorem countDown (s : State) : Steady s (countDown s) := by
  have hcount : Steady s { s with run.delayLeft := s.run.delayLeft - 1 } := of_same rfl
  exact cond (hcount.trans (changeRun _ _ _)) hcount

theorem cycleSource (s : State) : Steady s (cycleSource s).state := by
  have hmiss : Steady s (countMissed s) := of_same rfl
  unfold Machine.cycleSource
  split
  · exact refl s
  · exact refl s
  · exact countDown s
  · split
    · exact cond ((acceptCycle s).trans (stopEvent _ _)) (acceptCycle s)
    · exact hmiss
  · split
    · exact refl s
    · split
      · exact (acceptCycle _).after rfl
      · exact hmiss
  · exact hmiss

theorem pacerExpiry (s : State) : Steady s (pacerExpiry s) := by
  unfold Machine.pacerExpiry
  split
  · exact (cycleSource _).after rfl
  · exact refl s

theorem encoderEdge (s : State) : Steady s (encoderEdge s) :=
  cond (cond ((cycleSource _).after rfl) (of_same rfl)) (refl s)

theorem trigOperate (s : State) : Steady s (trigOperate s) := by
  have hcycle : Steady s (trigCycle s) := cond (cycleSource s) (refl s)
  have hstop : Steady s (trigStop (trigCycle s)) := hcycle.trans (cond (stopEvent _ _) (refl _))
  unfold Machine.trigOperate
  split
  · exact refl s
  · unfold trigArmed
    split
    · exact refl s
    · exact startEvent s
    · exact startEvent s
  · exact hstop
  · exact hstop
  · exact hcycle
  · exact cond (resume s) hstop

theorem trigInactiveEdge (s : State) : Steady s (trigInactiveEdge s) := by
  have hpin : Steady s (setTrig false s) := of_same rfl
  refine cond (hpin.trans ?_) hpin
  unfold gateStop
  split
  · exact stopEvent _ _
  · exact stopEvent _ _
  all_goals exact refl _

theorem releaseByEdge (s : State) : Steady s (releaseByEdge s) := by
  unfold Machine.releaseByEdge
  split
  · exact cond (of_same rfl) ((cycleBegin _).after rfl)
  · exact refl s
  · exact refl s

theorem releaseUnlocked (s : State) : Steady s (releaseUnlocked s) := by
  unfold Machine.releaseUnlocked
  split
  · exact refl s
  · exact (cycleBegin _).after rfl
  · exact (cycleBegin _).after rfl

theorem phaseDelayEnd (s : State) : Steady s (phaseDelayEnd s) := by
  unfold Machine.phaseDelayEnd
  split
  · exact (cycleBegin _).after rfl
  · exact refl s
  · exact refl s

theorem dutyTimerExpiry (s : State) : Steady s (dutyTimerExpiry s) := by
  unfold Machine.dutyTimerExpiry
  split
  · exact refl s
  · exact of_channels fun l h => by simpa [coolChannel] using h

theorem setFaulted (l : Light) (s : State) : Steady s (setFaulted l s) := updateLight (fun _ _ => rfl) l s

theorem cutIfOn (l : Light) (s : State) : Steady s (cutIfOn l s) :=
  cond ((lightOff l s).upd rfl) (refl s)

/-- What a fault latch does after its latch is set: the cut, the report and the stop (R117). -/
theorem latchFault (l : Light) (s : State) : Steady (Machine.setFaulted l s) (latchFault l s) := by
  have hraise := (cutIfOn l (Machine.setFaulted l s)).trans
    (raise .fault (faultPayload l (s.lights.channels.get l).on (Machine.cutIfOn l (Machine.setFaulted l s))) _)
  exact cond (hraise.trans (stopEvent _ _)) hraise

theorem startByState {s t : State} (h : startByState s = some t) : Steady s t := by
  unfold Machine.startByState at h
  split at h
  · split at h <;> cases h
    · exact startEvent s
    · exact armRun s
    · exact armRun s
  · split at h <;> cases h
    · exact startEvent s
    · exact refl _
    · exact refl _
  · split at h <;> cases h
    exact resume s
  all_goals cases h

theorem haltRun (s : State) : Steady s (haltRun s) := by
  unfold Machine.haltRun
  split
  · exact refl s
  · exact changeRun _ _ s
  · exact stopEvent _ s
  · exact stopEvent _ s
  · exact stopEvent _ s
  · exact refl s

theorem stopRun (s : State) : Steady s (stopRun s) := of_same rfl

theorem abortRun (s : State) : Steady s (abortRun s) :=
  ((abortSequencer s).trans (stopRun _)).trans (goIdle _ _)

/-! ### Commands -/

theorem of_onlyStage {s t : State} (h : OnlyStage s t) : Steady s t := by
  obtain ⟨u, rfl⟩ := h
  exact of_same rfl

theorem putShot {i : Nat} {e : ShotEntry} {s t : State} (h : putShot i e s = some t) : Steady s t := by
  obtain ⟨u, rfl⟩ := putShot_onlyTable h
  exact of_same rfl

theorem putSeqStart {i : Nat} {s t : State} (h : putSeqStart i s = some t) : Steady s t := by
  obtain ⟨-, rfl⟩ := putSeqStart_cases h
  exact of_same rfl

theorem takeShotPut (p : List Byte) (s : State) : Steady s (takeShotPut p s).state := by
  unfold Machine.takeShotPut
  split
  · exact refl s
  · split
    · split
      · exact refl s
      · next h => exact putShot h
    · exact refl s

theorem takeSeqSelect (p : List Byte) (s : State) : Steady s (takeSeqSelect p s).state := by
  unfold Machine.takeSeqSelect
  split
  · exact refl s
  · split
    · split
      · exact refl s
      · next h => exact putSeqStart h
    · exact refl s

theorem takeTableClear (p : List Byte) (s : State) : Steady s (takeTableClear p s).state := by
  unfold Machine.takeTableClear
  split
  · exact refl s
  · split
    · exact of_same rfl
    · exact refl s

theorem takeFire (p : List Byte) (s : State) : Steady s (takeFire p s).state := by
  unfold Machine.takeFire
  split
  · exact refl s
  · split
    · exact refl s
    · split
      · split
        · exact (startShot _ _ _).after rfl
        · exact refl s
      · exact refl s

theorem takeSenseSet (p : List Byte) (s : State) : Steady s (takeSenseSet p s).state := by
  unfold Machine.takeSenseSet
  split
  · exact refl s
  · exact of_same rfl

theorem takeRunSetup (p : List Byte) (s : State) : Steady s (takeRunSetup p s).state := by
  unfold Machine.takeRunSetup
  split
  · exact refl s
  · split
    · exact of_same rfl
    · exact refl s

theorem takeStart (p : List Byte) (s : State) : Steady s (takeStart p s).state := by
  unfold Machine.takeStart
  split
  · exact refl s
  · split
    · exact refl s
    · split
      · exact refl s
      · split
        · exact refl s
        · split
          · exact refl s
          · next h => exact startByState h

theorem takeCycle (p : List Byte) (s : State) : Steady s (takeCycle p s).state := by
  unfold Machine.takeCycle
  split
  · exact refl s
  · split
    · exact cycleSource s
    · exact refl s

theorem takeHalt (p : List Byte) (s : State) : Steady s (takeHalt p s).state := by
  unfold Machine.takeHalt
  split
  · exact refl s
  · exact haltRun s

theorem takeAbort (p : List Byte) (s : State) : Steady s (takeAbort p s).state := by
  unfold Machine.takeAbort
  split
  · exact refl s
  · split
    · exact abortRun s
    · exact refl s

theorem takeRegMode (p : List Byte) (s : State) : Steady s (takeRegMode p s).state := by
  unfold Machine.takeRegMode
  split
  · exact refl s
  · exact putRegMode _ _ s

theorem takeRegForce (p : List Byte) (s : State) : Steady s (takeRegForce p s).state := by
  unfold Machine.takeRegForce
  split
  · exact refl s
  · split
    · exact refl s
    · next h =>
      obtain ⟨-, rfl⟩ := putRegForce_cases h
      exact of_same rfl

theorem takeRegBands (p : List Byte) (s : State) : Steady s (takeRegBands p s).state := by
  unfold Machine.takeRegBands
  split
  · exact refl s
  · exact of_same rfl

theorem takeRegLimits (p : List Byte) (s : State) : Steady s (takeRegLimits p s).state := by
  unfold Machine.takeRegLimits
  split
  · exact refl s
  · exact of_same rfl

theorem takeLightDuty (p : List Byte) (s : State) : Steady s (takeLightDuty p s).state := by
  unfold Machine.takeLightDuty
  split
  · exact refl s
  · next l limit rate _ =>
    exact updateLight (f := fun c => { c with heatLimit := limit, coolRate := rate }) (fun _ => id) l s

theorem takeStageLaunch (p : List Byte) (s : State) : Steady s (takeStageLaunch p s).state := by
  unfold Machine.takeStageLaunch
  split
  · exact refl s
  · simp only
    split
    · split
      · exact applyBank _ s
      · exact of_onlyStage (setBank_onlyStage _ _ s)
    · exact refl s

theorem takeResultRead (p : List Byte) (s : State) : Steady s (takeResultRead p s).state := by
  unfold Machine.takeResultRead
  split
  · exact refl s
  · exact of_same rfl

theorem takeResultFlush (p : List Byte) (s : State) : Steady s (takeResultFlush p s).state := by
  unfold Machine.takeResultFlush
  split
  · exact refl s
  · exact of_same rfl

theorem takeResultThreshold (p : List Byte) (s : State) : Steady s (takeResultThreshold p s).state := by
  unfold Machine.takeResultThreshold
  split
  · exact refl s
  · exact of_same rfl

theorem takeReportMask (p : List Byte) (s : State) : Steady s (takeReportMask p s).state := by
  unfold Machine.takeReportMask
  split
  · exact refl s
  · exact of_same rfl

end Steady

/-- The commands that only answer (R16, R30, R107, R124, R145, R168, R169). -/
def isReading (c : Command) : Bool :=
  match c with
  | .identify | .status | .shotGet | .senseGet | .regGet | .lightGet | .stageGet => true
  | _ => false

/-- A command that only answers changes nothing. -/
theorem reading_state {c : Command} (h : isReading c = true) (p : List Byte) (s : State) :
    (executeDirect c p s).state = s := by
  cases c
  case identify => simp only [executeDirect, takeIdentify]; split <;> rfl
  case status => simp only [executeDirect, takeStatus]; split <;> rfl
  case shotGet =>
    simp only [executeDirect, takeShotGet]
    split
    · rfl
    · split <;> rfl
  case senseGet => simp only [executeDirect, takeSenseGet]; split <;> rfl
  case regGet => simp only [executeDirect, takeRegGet]; split <;> rfl
  case lightGet => simp only [executeDirect, takeLightGet]; split <;> rfl
  case stageGet => simp only [executeDirect, takeStageGet]; split <;> rfl
  all_goals cases h

/-- The commands that write the supply, the sync watch or a fault latch (R71, R122, R170, R175, R176, R179). -/
def isUnsteady (c : Command) : Bool :=
  match c with
  | .reset | .lockSetup | .faultClear | .standby | .wake | .supplySetup => true
  | _ => false

/-- Every other command leaves the supply, the sync watch and the latched faults as they were. -/
theorem executeDirect_steady {c : Command} (h : isUnsteady c = false) (p : List Byte) (s : State) :
    Steady s (executeDirect c p s).state := by
  by_cases hr : isReading c = true
  · rw [reading_state hr]
    exact .refl s
  · cases c
    case reportMask => exact .takeReportMask p s
    case shotPut => exact .takeShotPut p s
    case seqSelect => exact .takeSeqSelect p s
    case tableClear => exact .takeTableClear p s
    case fire => exact .takeFire p s
    case senseSet => exact .takeSenseSet p s
    case runSetup => exact .takeRunSetup p s
    case start => exact .takeStart p s
    case cycle => exact .takeCycle p s
    case halt => exact .takeHalt p s
    case abort => exact .takeAbort p s
    case regMode => exact .takeRegMode p s
    case regForce => exact .takeRegForce p s
    case regBands => exact .takeRegBands p s
    case regLimits => exact .takeRegLimits p s
    case lightDuty => exact .takeLightDuty p s
    case stageOpen => exact .of_onlyStage (takeStageOpen_onlyStage p s)
    case stageClose => exact .of_onlyStage (takeStageClose_onlyStage p s)
    case stageLaunch => exact .takeStageLaunch p s
    case stageDrop => exact .of_onlyStage (takeStageDrop_onlyStage p s)
    case stageLayout => exact .of_onlyStage (takeStageLayout_onlyStage p s)
    case stageAlternate => exact .of_onlyStage (takeStageAlternate_onlyStage p s)
    case resultRead => exact .takeResultRead p s
    case resultFlush => exact .takeResultFlush p s
    case resultThreshold => exact .takeResultThreshold p s
    case reset | lockSetup | faultClear | standby | wake | supplySetup => cases h
    all_goals exact absurd rfl hr

/-! ### The supply and the sync watch (R73, R174) -/

/-- From `s` to `t` the invariants of the supply and the sync watch, where they held, still hold. -/
structure SupplyWatchKept (s t : State) : Prop where
  supply : SupplySound s → SupplySound t
  watch : WatchSound s → WatchSound t

namespace SupplyWatchKept

theorem refl (s : State) : SupplyWatchKept s s := ⟨id, id⟩

theorem trans {s t u : State} (h : SupplyWatchKept s t) (g : SupplyWatchKept t u) : SupplyWatchKept s u :=
  ⟨g.supply ∘ h.supply, g.watch ∘ h.watch⟩

/-- An update that leaves the sync watch alone. -/
theorem of_supply {s t : State} (h : SupplySound s → SupplySound t) (hok : t.lock.syncOk = s.lock.syncOk)
    (hw : t.lock.watch = s.lock.watch) : SupplyWatchKept s t :=
  ⟨h, by simp only [WatchSound, hok, hw]; exact id⟩

/-- An update that leaves the supply alone. -/
theorem of_watch {s t : State} (h : WatchSound s → WatchSound t) (hs : t.supply = s.supply) : SupplyWatchKept s t :=
  ⟨by simp only [SupplySound, hs]; exact id, h⟩

theorem of_steady {s t : State} (h : Steady s t) : SupplyWatchKept s t :=
  of_supply (by simp only [SupplySound, h.supply]; exact id) h.syncOk h.watch

theorem changeSupply_supply (m : SupplyMode) (c : SupplyCause) (s : State) :
    (changeSupply m c s).supply = { s.supply with mode := m, supen := decide (m ≠ .standby) } := by
  simp [changeSupply]

theorem changeSupply_lock (m : SupplyMode) (c : SupplyCause) (s : State) :
    (changeSupply m c s).lock = s.lock := by
  simp [changeSupply]

/-- A wake starts the settle timer with WAKING (R176, R177). -/
theorem wakeUp (c : SupplyCause) (s : State) : SupplyWatchKept s (wakeUp c s) := by
  refine of_supply (fun _ => ?_) ?_ ?_ <;> unfold Machine.wakeUp
  · simp [SupplySound, changeSupply_supply]
  · rw [changeSupply_lock]
  · rw [changeSupply_lock]

/-- STANDBY stops the settle timer and the sync watch together (R175, R80). -/
theorem enterStandby (s : State) : SupplyWatchKept s (enterStandby s) where
  supply _ := by simp [SupplySound, Machine.enterStandby, changeSupply_supply]
  watch _ := by simp [WatchSound, Machine.enterStandby, changeSupply_lock]

theorem settleExpiry (s : State) : SupplyWatchKept s (settleExpiry s) := by
  unfold Machine.settleExpiry
  split
  · refine of_supply (fun _ => ?_) ?_ ?_
    · simp [SupplySound, changeSupply_supply]
    · rw [changeSupply_lock]
    · rw [changeSupply_lock]
  · exact refl s

theorem trigActiveEdge (s : State) : SupplyWatchKept s (trigActiveEdge s) := by
  have hpin : SupplyWatchKept s (setTrig true s) := of_steady (.of_same rfl)
  unfold Machine.trigActiveEdge
  simp only
  split
  · split
    · exact hpin.trans (wakeUp _ _)
    · exact hpin
  · exact hpin
  · exact hpin.trans (of_steady (.trigOperate _))

/-- A taken edge runs the watch and sets `sync_ok` (R72). -/
theorem restartWatch (s : State) : SupplyWatchKept s (restartWatch s) := by
  unfold Machine.restartWatch
  simp only
  split
  · next hok => exact of_watch (fun _ => by simpa [WatchSound] using hok) rfl
  · exact of_watch (fun _ => by simp [WatchSound, changeSync]) (by simp [changeSync])

theorem syncEdge (d : Polarity) (s : State) : SupplyWatchKept s (syncEdge d s) := by
  unfold Machine.syncEdge
  split
  · exact (restartWatch s).trans (of_steady (.releaseByEdge _))
  · exact refl s

/-- A watch expiry stops the watch and clears `sync_ok` (R73). -/
theorem watchExpiry (s : State) : SupplyWatchKept s (watchExpiry s) := by
  unfold Machine.watchExpiry
  split
  · have hsync : SupplyWatchKept s (changeSync false { s with lock.watch := none }) :=
      of_watch (fun _ => by simp [WatchSound, changeSync]) (by simp [changeSync])
    exact hsync.trans (of_steady (.releaseUnlocked _))
  · exact refl s

theorem clearSync (s : State) : SupplyWatchKept s (clearSync s) :=
  of_watch (fun _ => by simp [WatchSound, Machine.clearSync]) rfl

/-- A run reset stops the sync watch, as its last part (R170, R80). -/
theorem runReset (s : State) : SupplyWatchKept s (runReset s) := by
  have hidle : Steady s (goIdle .reset (stopRun (stopSequencer s))) :=
    ((Steady.stopSequencer s).trans (.stopRun _)).trans (.goIdle _ _)
  have hclear : ∀ t, SupplyWatchKept t (clearRunning t) := fun t =>
    of_watch (fun _ => by simp [WatchSound, clearRunning, Machine.clearSync]) rfl
  exact (of_steady hidle).trans (hclear _)

theorem takeReset (p : List Byte) (s : State) : SupplyWatchKept s (takeReset p s).state := by
  unfold Machine.takeReset
  split
  · exact refl s
  · exact runReset s
  · exact of_steady (.of_same rfl)

theorem takeLockSetup (p : List Byte) (s : State) : SupplyWatchKept s (takeLockSetup p s).state := by
  unfold Machine.takeLockSetup
  split
  · exact refl s
  · split
    · exact refl s
    · next setup _ _ =>
      have hsetup : SupplyWatchKept s { s with lock.setup := setup } := of_steady (.of_same rfl)
      show SupplyWatchKept s (putLockSetup setup s)
      unfold putLockSetup
      simp only
      split
      · exact hsetup.trans (clearSync _)
      · exact hsetup

theorem takeStandby (p : List Byte) (s : State) : SupplyWatchKept s (takeStandby p s).state := by
  unfold Machine.takeStandby
  split
  · exact refl s
  · split
    · split
      · exact enterStandby s
      · exact refl s
    · exact enterStandby s
    · exact refl s

theorem takeWake (p : List Byte) (s : State) : SupplyWatchKept s (takeWake p s).state := by
  unfold Machine.takeWake
  split
  · exact refl s
  · split
    · exact wakeUp _ s
    · exact refl s
    · exact refl s

theorem takeSupplySetup (p : List Byte) (s : State) : SupplyWatchKept s (takeSupplySetup p s).state := by
  unfold Machine.takeSupplySetup
  split
  · exact refl s
  · exact of_supply id rfl rfl

theorem takeFaultClear (p : List Byte) (s : State) : SupplyWatchKept s (takeFaultClear p s).state := by
  unfold Machine.takeFaultClear
  split
  · exact refl s
  · split
    · exact refl s
    · next l _ _ =>
      show SupplyWatchKept s (clearFault l s)
      unfold clearFault
      split
      · exact of_supply id rfl rfl
      · exact refl s

theorem command (c : Command) (p : List Byte) (s : State) : SupplyWatchKept s (executeDirect c p s).state := by
  by_cases h : isUnsteady c = false
  · exact of_steady (executeDirect_steady h p s)
  · cases c
    case reset => exact takeReset p s
    case lockSetup => exact takeLockSetup p s
    case faultClear => exact takeFaultClear p s
    case standby => exact takeStandby p s
    case wake => exact takeWake p s
    case supplySetup => exact takeSupplySetup p s
    all_goals exact absurd rfl h

theorem faultArrival (l : Light) (s : State) : SupplyWatchKept s (faultArrival l s) := by
  have hline : SupplyWatchKept s (setFaultLine l true s) := of_supply id rfl rfl
  unfold Machine.faultArrival
  simp only
  split
  · exact hline
  · exact hline.trans (of_steady ((Steady.setFaulted l _).trans (.latchFault l _)))

theorem passTime (s : State) : SupplyWatchKept s (passTime s) where
  supply h := by simpa [SupplySound, Machine.passTime, timerTick] using h
  watch h := by simpa [WatchSound, Machine.passTime, timerTick] using h

/-- Every block's effects keep the invariants of the supply and the sync watch. -/
theorem kept (s₀ : State) : KeptBy (SupplyWatchKept s₀) where
  link s k h := h.trans (of_steady (.of_same rfl))
  pins s k h := h.trans (of_supply id rfl rfl)
  resetCause s k h := h.trans (of_supply id rfl rfl)
  pending s k h := h.trans (of_steady (.of_same rfl))
  command c p s h := h.trans (command c p s)
  capture b c p s _ _ h := h.trans (of_steady (.of_onlyStage (capture_onlyStage b c p s)))
  pacerExpiry s h := h.trans (of_steady (.pacerExpiry s))
  encoderEdge s h := h.trans (of_steady (.encoderEdge s))
  trigActiveEdge s h := h.trans (trigActiveEdge s)
  trigInactiveEdge s h := h.trans (of_steady (.trigInactiveEdge s))
  syncEdge d s h := h.trans (syncEdge d s)
  watchExpiry s h := h.trans (watchExpiry s)
  phaseDelayEnd s h := h.trans (of_steady (.phaseDelayEnd s))
  flashStart s h := h.trans (of_steady (.flashStart s))
  firingEnd l s h := h.trans (of_steady (.lightOff l s))
  flashEnd c m s h := h.trans (of_steady (.flashEnd c m s))
  tailEnd s h := h.trans (of_steady (.tailEnd s))
  gapEnd s h := h.trans (of_steady (.gapEnd s))
  dutyTimerExpiry s h := h.trans (of_steady (.dutyTimerExpiry s))
  faultArrival l s h := h.trans (faultArrival l s)
  settleExpiry s h := h.trans (settleExpiry s)
  fullReset c s _ :=
    ⟨fun _ => by simp [SupplySound, fullReset, SupplyController.reset],
     fun _ => by simp [WatchSound, fullReset, LineLock.reset]⟩
  startLights s h := h.trans (of_supply id rfl rfl)
  passTime s h := h.trans (passTime s)

/-- Every step keeps the invariants of the supply and the sync watch. -/
theorem step {s t : State} (h : step s = .next t) : SupplyWatchKept s t := (kept s).step (refl s) h

end SupplyWatchKept

/-! ### What the receiver writes (R158, R159, R160) -/

/-- From `s` to `t` only the Link Port changed. -/
def OnlyLink (s t : State) : Prop := ∃ k, t = { s with link := k }

namespace OnlyLink

theorem refl (s : State) : OnlyLink s s := ⟨s.link, rfl⟩

theorem trans {s t u : State} (h : OnlyLink s t) (g : OnlyLink t u) : OnlyLink s u := by
  obtain ⟨j, rfl⟩ := h
  obtain ⟨k, rfl⟩ := g
  exact ⟨k, rfl⟩

theorem arrive (f : Frame) (s : State) : OnlyLink s (arrive f s) := by
  unfold Machine.arrive
  split
  · exact refl s
  · split <;> exact ⟨_, rfl⟩

theorem judge (got : List Byte) (s : State) : OnlyLink s (judge got s) := by
  unfold Machine.judge
  split
  · exact arrive _ s
  · exact ⟨_, rfl⟩

theorem collect (got : List Byte) (s : State) : OnlyLink s (collect got s) := by
  have hhunt : OnlyLink s (hunt s) := ⟨_, rfl⟩
  unfold Machine.collect
  split
  · exact hhunt
  · split
    · split
      · exact ⟨_, rfl⟩
      · exact hhunt.trans (judge _ _)
    · exact hhunt

theorem receiveByte (b : Byte) (s : State) : OnlyLink s (receiveByte b s) := by
  unfold Machine.receiveByte
  split
  · exact refl s
  · split
    · split
      · exact ⟨_, rfl⟩
      · exact refl s
    · exact collect _ s

theorem framingErrorSeen (held : Bool) (s : State) : OnlyLink s (framingErrorSeen held s) := by
  unfold Machine.framingErrorSeen
  split
  · exact refl s
  · exact ⟨_, rfl⟩

theorem gapTimerExpires (s : State) : OnlyLink s (gapTimerExpires s) := by
  unfold Machine.gapTimerExpires
  split
  · exact ⟨_, rfl⟩
  · exact refl s

theorem startSend (s : State) : OnlyLink s (startSend s) := ⟨_, startSend_eq s⟩

theorem steady {s t : State} (h : OnlyLink s t) : Steady s t := by
  obtain ⟨k, rfl⟩ := h
  exact .of_same rfl

end OnlyLink

/-! ### The fault latches (R117, R125) -/

theorem linesLatched_of_steady {s t : State} (h : Steady s t) (hs : LinesLatched s) : LinesLatched t := by
  intro hreset l hline
  rw [h.resetCause] at hreset
  rw [h.lines] at hline
  exact h.latched l (hs hreset l hline)

/-- In reset nothing is asked of the latches: reset completion sets them from the lines (R125). -/
theorem linesLatched_in_reset {s : State} (h : s.resetCause ≠ none) : LinesLatched s :=
  fun hnone => absurd hnone h

/-- The effects that write neither the light channels nor the fault lines, in an update of one's choice. -/
theorem linesLatched_of_same {s t : State}
    (h : (t.pins.faultLines, t.resetCause, t.lights.channels) = (s.pins.faultLines, s.resetCause, s.lights.channels))
    (hs : LinesLatched s) : LinesLatched t := by
  simp only [Prod.mk.injEq] at h
  obtain ⟨hlines, hreset, hlights⟩ := h
  simpa only [LinesLatched, hlines, hreset, hlights] using hs

section Supply

variable {s : State}

theorem changeSupply_keeps_linesLatched (m : SupplyMode) (c : SupplyCause) (hs : LinesLatched s) :
    LinesLatched (changeSupply m c s) :=
  linesLatched_of_steady (.raise _ _ _) (linesLatched_of_same rfl hs)

theorem enterStandby_keeps_linesLatched (hs : LinesLatched s) : LinesLatched (enterStandby s) :=
  changeSupply_keeps_linesLatched _ _ (linesLatched_of_same rfl hs)

theorem wakeUp_keeps_linesLatched (c : SupplyCause) (hs : LinesLatched s) : LinesLatched (wakeUp c s) :=
  changeSupply_keeps_linesLatched _ _ (linesLatched_of_same rfl hs)

theorem settleExpiry_keeps_linesLatched (hs : LinesLatched s) : LinesLatched (settleExpiry s) := by
  unfold settleExpiry
  split
  · exact changeSupply_keeps_linesLatched _ _ (linesLatched_of_same rfl hs)
  · exact hs

theorem changeSync_keeps_linesLatched (ok : Bool) (hs : LinesLatched s) : LinesLatched (changeSync ok s) :=
  linesLatched_of_steady (.raise _ _ _) (linesLatched_of_same rfl hs)

theorem syncEdge_keeps_linesLatched (d : Polarity) (hs : LinesLatched s) : LinesLatched (syncEdge d s) := by
  have hwatch : LinesLatched (restartWatch s) := by
    unfold restartWatch
    simp only
    split
    · exact linesLatched_of_same rfl hs
    · exact changeSync_keeps_linesLatched _ (linesLatched_of_same rfl hs)
  unfold syncEdge
  split
  · exact linesLatched_of_steady (.releaseByEdge _) hwatch
  · exact hs

theorem watchExpiry_keeps_linesLatched (hs : LinesLatched s) : LinesLatched (watchExpiry s) := by
  unfold watchExpiry
  split
  · exact linesLatched_of_steady (.releaseUnlocked _)
      (changeSync_keeps_linesLatched false (linesLatched_of_same (t := { s with lock.watch := none }) rfl hs))
  · exact hs

theorem trigActiveEdge_keeps_linesLatched (hs : LinesLatched s) : LinesLatched (trigActiveEdge s) := by
  have hpin : LinesLatched (setTrig true s) := linesLatched_of_same rfl hs
  unfold trigActiveEdge
  simp only
  split
  · split
    · exact wakeUp_keeps_linesLatched _ hpin
    · exact hpin
  · exact hpin
  · exact linesLatched_of_steady (.trigOperate _) hpin

theorem runReset_keeps_linesLatched (hs : LinesLatched s) : LinesLatched (runReset s) := by
  have hidle : Steady s (goIdle .reset (stopRun (stopSequencer s))) :=
    ((Steady.stopSequencer s).trans (.stopRun _)).trans (.goIdle _ _)
  have hkept := linesLatched_of_steady hidle hs
  exact linesLatched_of_same (t := clearRunning _) rfl hkept

/-- A latch is cleared only while its line is inactive (R122). -/
theorem clearFault_keeps_linesLatched {l : Light} (hline : ¬ hasLight s.pins.faultLines l = true)
    (hs : LinesLatched s) : LinesLatched (clearFault l s) := by
  unfold clearFault
  split
  · intro hreset j hj
    have hne : j ≠ l := fun h => hline (h ▸ hj)
    simpa [updateLight, Octet.get_set, hne] using hs hreset j hj
  · exact hs

/-- The six commands that write the supply, the sync watch or a latch keep the active lines latched. -/
theorem command_keeps_linesLatched (c : Command) (p : List Byte) (hs : LinesLatched s) :
    LinesLatched (executeDirect c p s).state := by
  by_cases h : isUnsteady c = false
  · exact linesLatched_of_steady (executeDirect_steady h p s) hs
  · cases c
    case reset =>
      simp only [executeDirect, takeReset]
      split
      · exact hs
      · exact runReset_keeps_linesLatched hs
      · exact linesLatched_of_same rfl hs
    case lockSetup =>
      simp only [executeDirect, takeLockSetup, putLockSetup]
      split
      · exact hs
      · split
        · exact hs
        · refine linesLatched_of_same (s := s) ?_ hs
          simp only [accept]
          split <;> rfl
    case faultClear =>
      simp only [executeDirect, takeFaultClear]
      split
      · exact hs
      · split
        · exact hs
        · next hline => exact clearFault_keeps_linesLatched hline hs
    case standby =>
      simp only [executeDirect, takeStandby]
      split
      · exact hs
      · split
        · split
          · exact enterStandby_keeps_linesLatched hs
          · exact hs
        · exact enterStandby_keeps_linesLatched hs
        · exact hs
    case wake =>
      simp only [executeDirect, takeWake]
      split
      · exact hs
      · split
        · exact wakeUp_keeps_linesLatched _ hs
        · exact hs
        · exact hs
    case supplySetup =>
      simp only [executeDirect, takeSupplySetup]
      split
      · exact hs
      · exact linesLatched_of_same rfl hs
    all_goals exact absurd rfl h

theorem execute_keeps_linesLatched (f : Frame) (hs : LinesLatched s) : LinesLatched (execute f s).state := by
  unfold execute
  split
  · unfold executeCommand
    split
    · split
      · exact linesLatched_of_steady (.of_onlyStage (capture_onlyStage _ _ _ s)) hs
      · exact command_keeps_linesLatched _ _ hs
    · exact command_keeps_linesLatched _ _ hs
  · exact hs

theorem takeOne_keeps_linesLatched (hs : LinesLatched s) : LinesLatched (takeOne s) := by
  unfold takeOne
  split
  · exact hs
  · next f rest _ =>
    have hpopped : LinesLatched { s with link.commands := rest } := linesLatched_of_same rfl hs
    exact linesLatched_of_same rfl (execute_keeps_linesLatched f hpopped)

theorem settle_keeps_linesLatched (hs : LinesLatched s) : LinesLatched (settle s) :=
  settle_keeps (P := LinesLatched) (fun t ht => linesLatched_of_steady (OnlyLink.startSend t).steady ht)
    (fun _ ht => takeOne_keeps_linesLatched ht) hs

theorem receiveFrame_keeps_linesLatched (bytes : List Byte) (hs : LinesLatched s) :
    LinesLatched (receiveFrame bytes s) := by
  unfold receiveFrame
  induction bytes generalizing s with
  | nil => exact hs
  | cons b bytes ih =>
    exact ih (settle_keeps_linesLatched (linesLatched_of_steady (OnlyLink.receiveByte b s).steady hs))

end Supply

/-- A line that becomes active leaves its light latched (R117). -/
theorem faultArrival_keeps_linesLatched (l : Light) {s : State} (hs : LinesLatched s) :
    LinesLatched (faultArrival l s) := by
  have others : ∀ j, j ≠ l → s.resetCause = none → hasLight (setFaultLine l true s).pins.faultLines j = true →
      (s.lights.channels.get j).faulted = true := by
    intro j hj hreset hline
    refine hs hreset j ?_
    simpa [setFaultLine, hj] using hline
  unfold faultArrival
  simp only
  split
  · next hfaulted =>
    intro hreset j hline
    by_cases hj : j = l
    · exact hj ▸ hfaulted
    · exact others j hj hreset hline
  · refine linesLatched_of_steady (.latchFault l _) fun hreset j hline => ?_
    by_cases hj : j = l
    · simp [setFaulted, updateLight, hj]
    · simpa [setFaulted, updateLight, Octet.get_set, hj] using others j hj hreset hline

theorem faultLineReturn_keeps_linesLatched (l : Light) {s : State} (hs : LinesLatched s) :
    LinesLatched (faultLineReturn l s) := by
  intro hreset j hline
  refine hs hreset j ?_
  have hboth : (j != l && hasLight s.pins.faultLines j) = true := by
    simpa [faultLineReturn, setFaultLine] using hline
  exact (Bool.and_eq_true_iff.mp hboth).2

/-- Reset completion latches exactly the active lines (R125). -/
theorem completeReset_keeps_linesLatched {s : State} (hs : LinesLatched s) : LinesLatched (completeReset s) := by
  unfold completeReset
  split
  · exact hs
  · refine linesLatched_of_steady (OnlyLink.startSend _).steady fun _ l hline => ?_
    simpa [startLights, lightAtCompletion] using hline

theorem fullReset_linesLatched (c : ResetCause) (s : State) : LinesLatched (fullReset c s) :=
  linesLatched_in_reset (Option.some_ne_none c)

theorem commandReset_linesLatched (s : State) : LinesLatched (commandReset s) :=
  completeReset_keeps_linesLatched (fullReset_linesLatched _ s)

theorem frameSentEvent_keeps_linesLatched {s : State} (hs : LinesLatched s) : LinesLatched (frameSentEvent s) := by
  unfold frameSentEvent
  split
  · split
    · exact commandReset_linesLatched s
    · exact linesLatched_of_same rfl hs
  · exact hs

theorem fullResetEvent_keeps_linesLatched {s : State} (hs : LinesLatched s) : LinesLatched (fullResetEvent s) := by
  unfold fullResetEvent
  split
  · exact commandReset_linesLatched s
  · exact hs

theorem event_keeps_linesLatched {f : State → State} {s t : State} (hf : LinesLatched (f s))
    (hs : LinesLatched s) (h : event f s = .next t) : LinesLatched t := by
  cases h
  split
  · exact hs
  · exact settle_keeps_linesLatched hf

theorem pinEvent_keeps_linesLatched {level f : State → State} {s t : State}
    (hlevel : (level s).resetCause = s.resetCause) (hf : LinesLatched (f s))
    (h : pinEvent level f s = .next t) : LinesLatched t := by
  cases h
  split
  · next hreset =>
    exact linesLatched_in_reset (by rw [hlevel]; exact Option.isSome_iff_ne_none.mp hreset)
  · exact settle_keeps_linesLatched hf

/-- Every command and event keeps the active lines latched. -/
theorem exec_keeps_linesLatched {i : Instr} {s t : State} (hs : LinesLatched s) (h : exec i s = .next t) :
    LinesLatched t := by
  have steady {f : State → State} (hf : Steady s (f s)) (h : event f s = .next t) : LinesLatched t :=
    event_keeps_linesLatched (linesLatched_of_steady hf hs) hs h
  cases i
  case frameReceived bytes => exact event_keeps_linesLatched (receiveFrame_keeps_linesLatched bytes hs) hs h
  case byteReceived b => exact steady (OnlyLink.receiveByte b s).steady h
  case framingError held => exact steady (OnlyLink.framingErrorSeen held s).steady h
  case gapTimerExpiry => exact steady (OnlyLink.gapTimerExpires s).steady h
  case lineReturnToIdle => exact steady (f := lineIdle) (.of_same rfl) h
  case frameSent => exact event_keeps_linesLatched (frameSentEvent_keeps_linesLatched hs) hs h
  case fullReset => exact event_keeps_linesLatched (fullResetEvent_keeps_linesLatched hs) hs h
  case powerOn => cases h; exact fullReset_linesLatched _ s
  case rstnLow => cases h; exact fullReset_linesLatched _ s
  case resetCompletion => cases h; exact completeReset_keeps_linesLatched hs
  case pacerExpiry => exact steady (.pacerExpiry s) h
  case encEdge => exact steady (.encoderEdge s) h
  case encoderCounterZero => exact steady (f := encoderZero) (.cond (.encoderEdge s) (.refl s)) h
  case trigActiveEdge => exact pinEvent_keeps_linesLatched rfl (trigActiveEdge_keeps_linesLatched hs) h
  case trigInactiveEdge =>
    exact pinEvent_keeps_linesLatched rfl (linesLatched_of_steady (.trigInactiveEdge s) hs) h
  case syncEdge d => exact event_keeps_linesLatched (syncEdge_keeps_linesLatched d hs) hs h
  case watchExpiry => exact event_keeps_linesLatched (watchExpiry_keeps_linesLatched hs) hs h
  case phaseDelayEnd => exact steady (.phaseDelayEnd s) h
  case flashStart => exact steady (.flashStart s) h
  case firingEnd l => exact steady (f := firingEnd l) (.lightOff l s) h
  case flashEnd c m => exact steady (.flashEnd c m s) h
  case tailEnd => exact steady (.tailEnd s) h
  case gapEnd => exact steady (.gapEnd s) h
  case dutyTimerExpiry => exact steady (.dutyTimerExpiry s) h
  case faultArrival l => exact pinEvent_keeps_linesLatched rfl (faultArrival_keeps_linesLatched l hs) h
  case settleExpiry => exact event_keeps_linesLatched (settleExpiry_keeps_linesLatched hs) hs h
  case faultLineReturnToInactive l =>
    exact pinEvent_keeps_linesLatched rfl (faultLineReturn_keeps_linesLatched l hs) h
  all_goals exact steady (OnlyLink.arrive _ s).steady h

theorem step_keeps_linesLatched {s t : State} (hs : LinesLatched s) (h : step s = .next t) : LinesLatched t := by
  unfold step at h
  split at h
  · cases h
    intro hreset l hline
    simpa [passTime] using hs hreset l hline
  · next c rest _ =>
    have hpopped : LinesLatched { s with pending := rest } := linesLatched_of_same rfl hs
    exact exec_keeps_linesLatched hpopped h

/-- Settles O56: the five block invariants by their blocks' own updates, the supply and the sync watch by the blocks'
effects, the fault latches event by event. -/
theorem stepKeepsBlocksSound : Obligations.StepKeepsBlocksSound := by
  intro s t h
  have blocks := BlocksKept.step h
  have supply := SupplyWatchKept.step h
  exact ⟨blocks.regs, blocks.heats, blocks.table, blocks.results, supply.supply, supply.watch,
    fun hs => step_keeps_linesLatched hs h, blocks.sense⟩

end Sys2Proof.BlocksProofs
end

section
/-!
PROOFS. The run, the sequencer, the hold, the supply and the lit lights agree after every step (`RunSound`). An update
that does not disturb the run keeps it (`Undisturbed`); a cycle, a shot or a run begins and ends in states in which no
light is on and no cycle is held (`Still`), from which the agreement is rebuilt for the state entered.
-/

namespace Sys2Proof.RunProofs

open Sys2Proof.Machine Sys2Proof.Safety Sys2Proof.BlocksProofs

/-! ### Updates that do not disturb the run -/

/-- What the run's invariant reads of a shot in flight. -/
def shotView (sh : Shot) : Bool × Phase × LightSet := (sh.test, sh.phase, sh.fired)

/-- From `s` to `t` nothing of the run, the sequencer, the hold and the supply mode moved, the table only grew, and
every light on was on before, with its regulator still not OFF and its channel still not faulted. -/
structure Undisturbed (s t : State) : Prop where
  seqState : t.seq.state = s.seq.state
  shot : t.seq.shot.map shotView = s.seq.shot.map shotView
  lastEntry : t.seq.lastEntry = s.seq.lastEntry
  cursor : t.seq.cursor = s.seq.cursor
  integrating : t.sense.integrating = s.sense.integrating
  hold : t.lock.hold = .none ↔ s.lock.hold = .none
  runState : t.run.state = s.run.state
  afterLeft : t.run.afterLeft = s.run.afterLeft
  setup : t.run.setup = s.run.setup
  pacer : t.run.pacer.isSome = s.run.pacer.isSome
  encoder : t.run.encoder = s.run.encoder
  mode : t.supply.mode = s.supply.mode
  count : s.table.count ≤ t.table.count
  start : s.table.seqStart < s.table.count → t.table.seqStart < t.table.count
  lamps : ∀ l, (t.lights.channels.get l).on = true → (s.lights.channels.get l).on = true ∧
    ((s.lights.channels.get l).faulted = false → (t.lights.channels.get l).faulted = false) ∧
    ((s.regs.get l).mode ≠ .off → (t.regs.get l).mode ≠ .off)

namespace Undisturbed

theorem refl (s : State) : Undisturbed s s :=
  ⟨rfl, rfl, rfl, rfl, rfl, Iff.rfl, rfl, rfl, rfl, rfl, rfl, rfl, Nat.le_refl _, id, fun _ h => ⟨h, id, id⟩⟩

theorem trans {s t u : State} (h : Undisturbed s t) (g : Undisturbed t u) : Undisturbed s u where
  seqState := g.seqState.trans h.seqState
  shot := g.shot.trans h.shot
  lastEntry := g.lastEntry.trans h.lastEntry
  cursor := g.cursor.trans h.cursor
  integrating := g.integrating.trans h.integrating
  hold := g.hold.trans h.hold
  runState := g.runState.trans h.runState
  afterLeft := g.afterLeft.trans h.afterLeft
  setup := g.setup.trans h.setup
  pacer := g.pacer.trans h.pacer
  encoder := g.encoder.trans h.encoder
  mode := g.mode.trans h.mode
  count := h.count.trans g.count
  start := g.start ∘ h.start
  lamps l hon := by
    obtain ⟨hmid, hfault, hoff⟩ := g.lamps l hon
    obtain ⟨hfirst, hfault', hoff'⟩ := h.lamps l hmid
    exact ⟨hfirst, hfault ∘ hfault', hoff ∘ hoff'⟩

theorem cond {s a b : State} {c : Prop} [Decidable c] (ha : Undisturbed s a) (hb : Undisturbed s b) :
    Undisturbed s (if c then a else b) := by
  split <;> assumption

/-- An update of the lights and the regulators alone, as far as the run is concerned. -/
theorem of_lamps {s t : State}
    (h : (t.seq.state, t.seq.shot, t.seq.lastEntry, t.seq.cursor, t.sense.integrating, t.lock.hold, t.run.state,
        t.run.afterLeft, t.run.setup, t.run.pacer, t.run.encoder, t.supply.mode, t.table) =
      (s.seq.state, s.seq.shot, s.seq.lastEntry, s.seq.cursor, s.sense.integrating, s.lock.hold, s.run.state,
        s.run.afterLeft, s.run.setup, s.run.pacer, s.run.encoder, s.supply.mode, s.table))
    (hl : ∀ l, (t.lights.channels.get l).on = true → (s.lights.channels.get l).on = true ∧
      ((s.lights.channels.get l).faulted = false → (t.lights.channels.get l).faulted = false) ∧
      ((s.regs.get l).mode ≠ .off → (t.regs.get l).mode ≠ .off)) : Undisturbed s t := by
  simp only [Prod.mk.injEq] at h
  obtain ⟨h1, h2, h3, h4, h5, h6, h7, h8, h9, h10, h11, h12, h13⟩ := h
  exact ⟨h1, by rw [h2], h3, h4, h5, by rw [h6], h7, h8, h9, by rw [h10], h11, h12, by rw [h13],
    by rw [h13]; exact id, hl⟩

/-- An update of nothing that the run's invariant reads. -/
theorem of_same {s t : State}
    (h : (t.seq.state, t.seq.shot, t.seq.lastEntry, t.seq.cursor, t.sense.integrating, t.lock.hold, t.run.state,
        t.run.afterLeft, t.run.setup, t.run.pacer, t.run.encoder, t.supply.mode, t.table) =
      (s.seq.state, s.seq.shot, s.seq.lastEntry, s.seq.cursor, s.sense.integrating, s.lock.hold, s.run.state,
        s.run.afterLeft, s.run.setup, s.run.pacer, s.run.encoder, s.supply.mode, s.table))
    (hl : (t.lights.channels, t.regs) = (s.lights.channels, s.regs)) : Undisturbed s t := by
  simp only [Prod.mk.injEq] at hl
  exact of_lamps h fun l => by rw [hl.1, hl.2]; exact fun hon => ⟨hon, id, id⟩

/-- A shot in flight is still in flight, with the same view. -/
theorem shot_of {s t : State} (h : Undisturbed s t) {sh : Shot} (hsh : t.seq.shot = some sh) :
    ∃ sh', s.seq.shot = some sh' ∧ shotView sh' = shotView sh := by
  have hmap := h.shot
  rw [hsh] at hmap
  exact Option.map_eq_some_iff.mp hmap.symm

theorem shot_to {s t : State} (h : Undisturbed s t) {sh : Shot} (hsh : s.seq.shot = some sh) :
    ∃ sh', t.seq.shot = some sh' ∧ shotView sh' = shotView sh := by
  have hmap := h.shot
  rw [hsh] at hmap
  exact Option.map_eq_some_iff.mp hmap

theorem shotView_eq {a b : Shot} (h : shotView a = shotView b) :
    a.test = b.test ∧ a.phase = b.phase ∧ a.fired = b.fired := by
  simpa [shotView] using h

/-- What does not disturb the run leaves it coherent. -/
theorem coherent {s t : State} (h : Undisturbed s t) (hs : Coherent s) : Coherent t where
  shot_in_flight := by
    have hsome : t.seq.shot.isSome = s.seq.shot.isSome := by simpa using congrArg Option.isSome h.shot
    rw [hsome, h.seqState]
    exact hs.shot_in_flight
  test_shot sh hsh := by
    obtain ⟨sh', hsh', hview⟩ := h.shot_of hsh
    rw [h.seqState, ← (shotView_eq hview).1]
    exact hs.test_shot sh' hsh'
  integrates_in_flash := by
    rw [h.integrating, hs.integrates_in_flash]
    constructor
    · rintro ⟨sh, hsh, hphase⟩
      obtain ⟨sh', hsh', hview⟩ := h.shot_to hsh
      exact ⟨sh', hsh', (shotView_eq hview).2.1.trans hphase⟩
    · rintro ⟨sh, hsh, hphase⟩
      obtain ⟨sh', hsh', hview⟩ := h.shot_of hsh
      exact ⟨sh', hsh', (shotView_eq hview).2.1.trans hphase⟩
  held := by rw [Ne, h.hold, h.seqState]; exact hs.held
  idle_rest := by rw [h.runState, h.seqState]; exact hs.idle_rest
  testing_idle := by rw [h.runState, h.seqState]; exact hs.testing_idle
  before_cycles := by rw [h.runState, h.seqState]; exact hs.before_cycles
  paused_suspended := by rw [h.runState, h.seqState]; exact hs.paused_suspended
  needs_operate := by rw [h.runState, h.seqState, h.mode]; exact hs.needs_operate
  start_defined := by rw [h.runState]; exact fun hrun => h.start (hs.start_defined hrun)
  next_defined := by
    rw [h.seqState, h.lastEntry, h.cursor]
    exact fun hstate hlast => (hs.next_defined hstate hlast).trans_le h.count
  finishing_busy := by rw [h.runState, h.afterLeft, h.seqState]; exact hs.finishing_busy
  pacer_runs := by rw [h.pacer, h.setup, h.runState]; exact hs.pacer_runs
  encoder_range := by rw [h.encoder, h.setup]; exact hs.encoder_range

/-- What does not disturb the run keeps its invariant. -/
theorem runSound {s t : State} (h : Undisturbed s t) (hs : RunSound s) : RunSound t := by
  refine ⟨h.coherent hs.1, fun l hon => ?_⟩
  obtain ⟨hbefore, hfault, hoff⟩ := h.lamps l hon
  obtain ⟨⟨sh, hsh, hphase, hfired⟩, hwhole, hlit, hmode⟩ := hs.2 l hbefore
  obtain ⟨sh', hsh', hview⟩ := h.shot_to hsh
  obtain ⟨-, hphase', hfired'⟩ := shotView_eq hview
  exact ⟨⟨sh', hsh', hphase'.trans hphase, by rw [hfired']; exact hfired⟩, hfault hwhole, hoff hlit,
    h.mode.trans hmode⟩

end Undisturbed

/-! ### States in which no light is on and no cycle is held -/

/-- No light is on, no charge is counted, no cycle is held, and the encoder counter is in range. -/
structure Still (s : State) : Prop where
  dark : ∀ l, (s.lights.channels.get l).on = false
  unmeasured : s.sense.integrating = false
  unheld : s.lock.hold = .none
  encoder_range : 1 ≤ s.run.encoder ∧ s.run.encoder ≤ s.run.setup.encoderSpan

/-- The pacer runs exactly under cycle source PACER in a run (R49). -/
def PacerFits (s : State) : Prop :=
  s.run.pacer.isSome = true ↔ s.run.setup.cycleSource = .pacer ∧ pacerState s.run.state = true

/-- A run may go on: the supply is in OPERATE and `seq_start` names an entry (R10, R26). -/
def Runnable (s : State) : Prop := s.supply.mode = .operate ∧ s.table.seqStart < s.table.count

theorem Undisturbed.still {s t : State} (h : Undisturbed s t) (hs : Still s) : Still t where
  dark l := by
    by_contra hon
    have hbefore := (h.lamps l (by simpa using hon)).1
    rw [hs.dark l] at hbefore
    cases hbefore
  unmeasured := h.integrating.trans hs.unmeasured
  unheld := h.hold.mpr hs.unheld
  encoder_range := by rw [h.encoder, h.setup]; exact hs.encoder_range

theorem Undisturbed.pacerFits {s t : State} (h : Undisturbed s t) (hs : PacerFits s) : PacerFits t := by
  unfold PacerFits
  rw [h.pacer, h.setup, h.runState]
  exact hs

theorem Undisturbed.runnable {s t : State} (h : Undisturbed s t) (hs : Runnable s) : Runnable t :=
  ⟨h.mode.trans hs.1, h.start hs.2⟩

/-- Outside a flash and a hold a sound state is still (R28, R111). -/
theorem still_of_runSound {s : State} (hs : RunSound s) (hphase : ∀ sh, s.seq.shot = some sh → sh.phase ≠ .flash)
    (hseq : s.seq.state ≠ .waitSync) : Still s where
  dark l := by
    by_contra hon
    obtain ⟨⟨sh, hsh, hflash, -⟩, -⟩ := hs.2 l (by simpa using hon)
    exact hphase sh hsh hflash
  unmeasured := by
    by_contra hon
    obtain ⟨sh, hsh, hflash⟩ := hs.1.integrates_in_flash.mp (by simpa using hon)
    exact hphase sh hsh hflash
  unheld := by
    by_contra hheld
    exact hseq (hs.1.held.mp hheld)
  encoder_range := hs.1.encoder_range

/-- With no shot in flight and no hold a sound state is still. -/
theorem still_of_no_shot {s : State} (hs : RunSound s) (hshot : s.seq.shot = none)
    (hseq : s.seq.state ≠ .waitSync) : Still s :=
  still_of_runSound hs (fun sh hsh => by rw [hshot] at hsh; cases hsh) hseq

theorem shot_none_of {s : State} (hs : Coherent s) (h1 : s.seq.state ≠ .shooting) (h2 : s.seq.state ≠ .testing) :
    s.seq.shot = none := by
  cases hshot : s.seq.shot with
  | none => rfl
  | some sh =>
    rcases hs.shot_in_flight.mp (by rw [hshot]; rfl) with h | h
    · exact absurd h h1
    · exact absurd h h2

theorem runnable_of_run {s : State} (hs : Coherent s) (h : s.run.state ≠ .idle) : Runnable s :=
  ⟨hs.needs_operate (.inl h), hs.start_defined h⟩

/-- A cycle in progress belongs to a run that is RUNNING or FINISHING (R37, R45, R66). -/
theorem run_active {s : State} (hs : Coherent s) (h : s.seq.state = .shooting ∨ s.seq.state = .waitSync) :
    s.run.state = .running ∨ s.run.state = .finishing := by
  have hidle := hs.idle_rest
  have hbefore := hs.before_cycles
  have hpaused := hs.paused_suspended
  rcases h with h | h <;> rw [h] at hidle hbefore hpaused <;> cases hr : s.run.state <;> simp_all

/-! ### The states a still part enters -/

/-- The sequencer at rest: a sound state, where the run may be in it (R64). -/
theorem runSound_of_quiet {s : State} (h : Still s) (hq : s.seq.state = .quiet) (hshot : s.seq.shot = none)
    (hpacer : PacerFits s) (hpaused : s.run.state ≠ .paused) (hrun : s.run.state ≠ .idle → Runnable s)
    (hfin : s.run.state = .finishing → s.run.afterLeft ≠ 0) : RunSound s := by
  refine ⟨?_, fun l hon => by rw [h.dark l] at hon; cases hon⟩
  constructor
  case encoder_range => exact h.encoder_range
  case pacer_runs => exact hpacer
  case needs_operate => rw [hq]; exact fun hor => (hrun (hor.resolve_right (by simp))).1
  case start_defined => exact fun hr => (hrun hr).2
  case finishing_busy => exact fun hf hzero => absurd hzero (hfin hf)
  case paused_suspended => rw [hq]; exact ⟨fun hp => absurd hp hpaused, fun hp => by cases hp⟩
  all_goals simp [hq, hshot, h.unmeasured, h.unheld]

/-- What goes with a shot in flight: a test shot in IDLE, or a cycle of an active run, whose next entry is defined
unless this is the last (R11, R21, R41). -/
def ShotFits (test : Bool) (s : State) : Prop :=
  (test = true ∧ s.seq.state = .testing ∧ s.run.state = .idle) ∨
  (test = false ∧ s.seq.state = .shooting ∧ (s.run.state = .running ∨ s.run.state = .finishing) ∧
    s.table.seqStart < s.table.count ∧ (s.seq.lastEntry = false → s.seq.cursor + 1 < s.table.count))

theorem shotFits_of_coherent {s : State} {sh : Shot} (hs : Coherent s) (hshot : s.seq.shot = some sh) :
    ShotFits sh.test s := by
  rcases hs.shot_in_flight.mp (by rw [hshot]; rfl) with hseq | hseq
  · have hactive := run_active hs (.inl hseq)
    have htest : sh.test = false := by
      by_contra htest
      have := (hs.test_shot sh hshot).mp (by simpa using htest)
      rw [hseq] at this
      cases this
    have hidle : s.run.state ≠ .idle := by rcases hactive with h | h <;> rw [h] <;> simp
    exact .inr ⟨htest, hseq, hactive, hs.start_defined hidle, hs.next_defined (.inl hseq)⟩
  · exact .inl ⟨(hs.test_shot sh hshot).mpr hseq, hseq, hs.testing_idle hseq⟩

/-- Shots take place in OPERATE (R26). -/
theorem operate_of_shotFits {s : State} {test : Bool} (hs : Coherent s) (h : ShotFits test s) :
    s.supply.mode = .operate := by
  rcases h with ⟨-, hseq, -⟩ | ⟨-, -, hrun | hrun, -⟩
  · exact hs.needs_operate (.inr hseq)
  · exact hs.needs_operate (.inl (by rw [hrun]; simp))
  · exact hs.needs_operate (.inl (by rw [hrun]; simp))

theorem Undisturbed.shotFits {s t : State} {test : Bool} (h : Undisturbed s t) (hs : ShotFits test s) :
    ShotFits test t := by
  unfold ShotFits
  rw [h.seqState, h.runState, h.lastEntry, h.cursor]
  exact hs.imp_right fun ⟨htest, hseq, hrun, hstart, hnext⟩ =>
    ⟨htest, hseq, hrun, h.start hstart, fun hlast => (hnext hlast).trans_le h.count⟩

/-- A shot in flight outside its flash, of a cycle or a test shot: a sound state (R21, R41). -/
theorem runSound_of_shot {s : State} {sh : Shot} (h : Still s) (hshot : s.seq.shot = some sh)
    (hphase : sh.phase ≠ .flash) (hpacer : PacerFits s) (hmode : s.supply.mode = .operate)
    (hkind : ShotFits sh.test s) : RunSound s := by
  refine ⟨?_, fun l hon => by rw [h.dark l] at hon; cases hon⟩
  have hflash : ¬ ∃ sh', s.seq.shot = some sh' ∧ sh'.phase = .flash := by
    rintro ⟨sh', hsh', hp⟩
    cases hshot.symm.trans hsh'
    exact hphase hp
  rcases hkind with ⟨htest, hseq, hrun⟩ | ⟨htest, hseq, hrun, hstart, hnext⟩
  · constructor
    case encoder_range => exact h.encoder_range
    case pacer_runs => exact hpacer
    case needs_operate => exact fun _ => hmode
    case integrates_in_flash => simp only [h.unmeasured, hflash, Bool.false_eq_true]
    all_goals simp [hseq, hshot, htest, hrun, h.unheld]
  · constructor
    case encoder_range => exact h.encoder_range
    case pacer_runs => exact hpacer
    case needs_operate => exact fun _ => hmode
    case start_defined => exact fun _ => hstart
    case next_defined => exact fun _ => hnext
    case integrates_in_flash => simp only [h.unmeasured, hflash, Bool.false_eq_true]
    all_goals rcases hrun with hrun | hrun <;> simp [hseq, hshot, htest, hrun, h.unheld]

/-- A cycle suspended after a PAUSE entry: a sound state (R37, R66). -/
theorem runSound_of_suspended {s : State} (h : Still s) (hseq : s.seq.state = .suspended) (hshot : s.seq.shot = none)
    (hpacer : PacerFits s) (hrun : s.run.state = .paused) (hrunnable : Runnable s)
    (hnext : s.seq.lastEntry = false → s.seq.cursor + 1 < s.table.count) : RunSound s := by
  refine ⟨?_, fun l hon => by rw [h.dark l] at hon; cases hon⟩
  constructor
  case encoder_range => exact h.encoder_range
  case pacer_runs => exact hpacer
  case needs_operate => exact fun _ => hrunnable.1
  case start_defined => exact fun _ => hrunnable.2
  case next_defined => exact fun _ => hnext
  all_goals simp [hseq, hshot, hrun, h.unmeasured, h.unheld]

/-- A cycle held for an edge of SYNC or a phase delay: a sound state (R75, R76). -/
theorem runSound_of_held {s : State} (hdark : ∀ l, (s.lights.channels.get l).on = false)
    (hmeasure : s.sense.integrating = false)
    (hrange : 1 ≤ s.run.encoder ∧ s.run.encoder ≤ s.run.setup.encoderSpan) (hheld : s.lock.hold ≠ .none)
    (hseq : s.seq.state = .waitSync) (hshot : s.seq.shot = none) (hpacer : PacerFits s) (hrunnable : Runnable s)
    (hrun : s.run.state = .running ∨ s.run.state = .finishing) : RunSound s := by
  refine ⟨?_, fun l hon => by rw [hdark l] at hon; cases hon⟩
  constructor
  case encoder_range => exact hrange
  case pacer_runs => exact hpacer
  case needs_operate => exact fun _ => hrunnable.1
  case start_defined => exact fun _ => hrunnable.2
  all_goals rcases hrun with hrun | hrun <;> simp [hseq, hshot, hrun, hmeasure, hheld]

/-! ### The frames of the operations that do not disturb the run -/

namespace Undisturbed

theorem raise (k : ReportKind) (p : List Byte) (s : State) : Undisturbed s (raise k p s) := by
  rw [raise_eq]; exact of_same rfl rfl

theorem lightOff (l : Light) (s : State) : Undisturbed s (lightOff l s) := by
  refine of_lamps rfl fun j hon => ?_
  simp only [Machine.lightOff, Octet.get_set] at hon ⊢
  split at hon
  · cases hon
  · next hj => rw [if_neg hj]; exact ⟨hon, id, id⟩

/-- A regulator changed, its mode kept or turned on. -/
theorem updateReg {f : Regulator → Regulator} (hf : ∀ r, r.mode ≠ .off → (f r).mode ≠ .off) (l : Light) (s : State) :
    Undisturbed s (updateReg l f s) := by
  refine of_lamps rfl fun j hon => ⟨hon, id, fun hmode => ?_⟩
  simp only [Machine.updateReg, Octet.get_set]
  split
  · next hj => exact hf _ (hj ▸ hmode)
  · exact hmode

theorem updateRegs {f : Regulator → Regulator} (hf : ∀ r, r.mode ≠ .off → (f r).mode ≠ .off) (s : State) :
    Undisturbed s (updateRegs f s) := by
  refine of_lamps rfl fun j hon => ⟨hon, id, fun hmode => ?_⟩
  simp only [Machine.updateRegs, Octet.get_map]
  exact hf _ hmode

/-- A channel changed in what the run does not read. -/
theorem updateLight {f : LightChannel → LightChannel} (hon : ∀ c, (f c).on = c.on)
    (hf : ∀ c, c.faulted = false → (f c).faulted = false) (l : Light) (s : State) :
    Undisturbed s (updateLight l f s) := by
  refine of_lamps rfl fun j hj => ?_
  simp only [Machine.updateLight, Octet.get_set] at hj ⊢
  split at hj
  · next h => subst h; rw [if_pos rfl]; exact ⟨hon _ ▸ hj, hf _, id⟩
  · next h => rw [if_neg h]; exact ⟨hj, id, id⟩

/-- REG_MODE OFF switches its light off (R102). -/
theorem putRegMode (l : Light) (m : RegMode) (s : State) : Undisturbed s (putRegMode l m s) := by
  unfold Machine.putRegMode
  simp only
  split
  · refine of_lamps rfl fun j hon => ?_
    simp only [Machine.lightOff, Octet.get_set] at hon ⊢
    split at hon
    · cases hon
    · next hj =>
      rw [if_neg hj]
      refine ⟨hon, id, fun hmode => ?_⟩
      simpa [Machine.updateReg, Octet.get_set, hj] using hmode
  · next hm => exact updateReg (fun r _ => by cases m <;> simp_all [withMode]) l s

theorem putShot {i : Nat} {e : ShotEntry} {s t : State} (h : putShot i e s = some t) : Undisturbed s t := by
  rcases putShot_cases h with ⟨-, rfl⟩ | ⟨-, rfl⟩
  · exact { refl s with count := by simp [ShotTable.count], start := by simp [ShotTable.count] }
  · exact { refl s with
      count := by simp [ShotTable.count]
      start := by simp only [ShotTable.count, List.length_append]; omega }

theorem putSeqStart {i : Nat} {s t : State} (h : putSeqStart i s = some t) : Undisturbed s t := by
  obtain ⟨hi, rfl⟩ := putSeqStart_cases h
  exact { refl s with start := fun _ => hi }

theorem putRegForce {l : Light} {d c : Nat} {s t : State} (h : putRegForce l d c s = some t) : Undisturbed s t := by
  obtain ⟨-, rfl⟩ := putRegForce_cases h
  exact updateReg (fun r hr => by unfold withActuators; simp only; split <;> exact hr) l s

theorem putRegBands (l : Light) (b : RegBands) (s : State) : Undisturbed s (putRegBands l b s) :=
  updateReg (f := fun r => { r with bands := b }) (fun _ => id) l s

theorem putRegLimits (l : Light) (m : RegLimits) (s : State) : Undisturbed s (putRegLimits l m s) :=
  updateReg (f := withLimits m) (fun _ => id) l s

theorem putLightDuty (l : Light) (a b : Nat) (s : State) : Undisturbed s (putLightDuty l a b s) :=
  updateLight (f := fun c => { c with heatLimit := a, coolRate := b }) (fun _ => rfl) (fun _ => id) l s

/-- An applied record configures, and does not disturb the run (R136). -/
theorem applyRecord {r : StageRecord} {s t : State} (h : applyRecord r s = some t) : Undisturbed s t := by
  rcases applyRecord_cases h with ⟨_, _, _, h⟩ | ⟨_, h⟩ | ⟨_, _, rfl⟩ | ⟨_, _, _, h⟩ | ⟨_, _, _, rfl⟩ |
    ⟨_, _, _, rfl⟩ | ⟨_, _, _, _, rfl⟩
  · exact putShot h
  · exact putSeqStart h
  · exact putRegMode _ _ s
  · exact putRegForce h
  · exact putRegBands _ _ s
  · exact putRegLimits _ _ s
  · exact putLightDuty _ _ _ s

theorem applyBank (b : Fin 4) (s : State) : Undisturbed s (applyBank b s).state :=
  .trans (applyRecords_keep (P := Undisturbed s) (fun _ _ _ h hs => hs.trans (applyRecord h)) _ ⟨s, 0, 0⟩ (refl s))
    (raise _ _ _)

theorem applyDueBanks (s : State) : Undisturbed s (applyDueBanks s) :=
  applyDueBanks_keep (P := Undisturbed s) (fun b t h => h.trans (applyBank b t))
    (fun _ _ h => h.trans (of_same rfl rfl)) (refl s)

theorem takeFigure_mode (a b : Quad Nat) (r : Regulator) : (takeFigure a b r).mode = r.mode := by
  unfold takeFigure
  split
  · rfl
  · split <;> rfl

theorem takeClip_mode (r : Regulator) : (takeClip r).mode = r.mode := by
  unfold takeClip
  split <;> rfl

theorem handOffCycle (sh : Shot) (s : State) : Undisturbed s (handOffCycle sh s) := by
  refine cond (refl s) ?_
  unfold handOff
  split
  · exact refl s
  · next l _ =>
    have hfigure := cond (c := givesFigure sh l = true)
      (updateReg (f := takeFigure s.sense.readings s.sense.baselines)
        (fun r hr => by rwa [takeFigure_mode]) l s) (refl s)
    exact cond (hfigure.trans (updateReg (fun r hr => by rwa [takeClip_mode]) l _)) hfigure

theorem offerRecord (r : ResultRecord) (s : State) : Undisturbed s (offerRecord r s) := by
  have hadd : Undisturbed s { s with results.records := s.results.records ++ [r] } := of_same rfl rfl
  exact cond (cond (hadd.trans (raise _ _ _)) hadd) (of_same rfl rfl)

theorem recordShot (sh : Shot) (m : LineSet) (s : State) : Undisturbed s (recordShot sh m s) :=
  cond (refl s) (offerRecord _ s)

theorem noteClipped (sh : Shot) (s : State) : Undisturbed s (noteClipped sh s) :=
  cond (of_same rfl rfl) (refl s)

theorem takeBaselines (sh : Shot) (s : State) : Undisturbed s (takeBaselines sh s) :=
  cond (of_same rfl rfl) (refl s)

theorem dutyTimerExpiry (s : State) : Undisturbed s (dutyTimerExpiry s) := by
  unfold Machine.dutyTimerExpiry
  split
  · exact refl s
  · exact of_lamps rfl fun l hon => by simpa [coolChannel, LightChannel.on] using hon

theorem stepOn_mode (r : Regulator) (f : Nat) : (stepOn r f).mode = r.mode := by
  unfold stepOn brighterStep darkerStep fastBrighter fastDarker normalBrighter normalDarker
  repeat' split
  all_goals rfl

theorem closeRegulator_mode (r : Regulator) : (closeRegulator r).mode = r.mode := by
  unfold closeRegulator
  split
  · exact stepOn_mode r _
  · rfl

theorem runResetRegulator_mode (r : Regulator) : (runResetRegulator r).mode = r.mode := by
  unfold runResetRegulator
  simp only
  split <;> rfl

theorem discardCycle (n k : Nat) (s : State) : Undisturbed s (discardCycle n k s) := by
  have hflag : Undisturbed s { s with seq.flags.aborted := true } := of_same rfl rfl
  exact (hflag.trans (updateRegs (f := clearAccumulator) (fun _ => id) _)).trans (raise _ _ _)

theorem countMissed (s : State) : Undisturbed s (countMissed s) := of_same rfl rfl

/-- A fault latch cuts its light before it counts as faulted (R117, R118). -/
theorem latchAndCut (l : Light) (s : State) : Undisturbed s (cutIfOn l (setFaulted l s)) := by
  have hlamps : ∀ (c : LightChannel), c.on = false → ∀ j,
      ((s.lights.channels.set l c).get j).on = true → (s.lights.channels.get j).on = true ∧
        ((s.lights.channels.get j).faulted = false → ((s.lights.channels.set l c).get j).faulted = false) := by
    intro c hc j hon
    rw [Octet.get_set] at hon ⊢
    split at hon
    · rw [hc] at hon; cases hon
    · next hj => rw [if_neg hj]; exact ⟨hon, id⟩
  have hfaulted : (setFaulted l s).lights.channels.get l = { s.lights.channels.get l with faulted := true } := by
    simp [setFaulted, Machine.updateLight]
  unfold cutIfOn
  rw [hfaulted]
  split
  · have hcut : ((s.lights.channels.set l { s.lights.channels.get l with faulted := true }).set l
        (channelOff { s.lights.channels.get l with faulted := true })) =
        s.lights.channels.set l (channelOff { s.lights.channels.get l with faulted := true }) := by
      apply Octet.ext_get
      intro j
      simp only [Octet.get_set]
      split <;> rfl
    refine { refl s with shot := ?_, lamps := fun j hon => ?_ }
    · show Option.map shotView (Option.map _ s.seq.shot) = _
      rw [Option.map_map]
      rfl
    · simp only [noteCut, Machine.lightOff, hfaulted] at hon ⊢
      simp only [setFaulted, Machine.updateLight, hcut] at hon ⊢
      obtain ⟨hbefore, hfault⟩ := hlamps _ rfl j hon
      exact ⟨hbefore, hfault, id⟩
  · next hoff =>
    refine of_lamps rfl fun j hon => ?_
    obtain ⟨hbefore, hfault⟩ := hlamps _ (by simpa using hoff) j hon
    exact ⟨hbefore, hfault, id⟩

theorem restartWatch (s : State) : Undisturbed s (restartWatch s) := by
  have hwatch : Undisturbed s { s with lock.watch := some (s.lock.setup.timeout * 1000) } := of_same rfl rfl
  have hsync : Undisturbed { s with lock.watch := some (s.lock.setup.timeout * 1000) }
      { s with lock.watch := some (s.lock.setup.timeout * 1000), lock.syncOk := true } := of_same rfl rfl
  exact cond hwatch ((hwatch.trans hsync).trans (raise _ _ _))

theorem clearRunning (s : State) : Undisturbed s (clearRunning s) := by
  have hregs : Undisturbed s (Machine.updateRegs runResetRegulator s) :=
    updateRegs (fun r hr => by rwa [runResetRegulator_mode]) s
  exact hregs.trans (of_same rfl rfl)

/-- The passing of 1 µs (log entry 4). -/
theorem passTime (s : State) : Undisturbed s (passTime s) where
  seqState := rfl
  shot := by
    show Option.map shotView (Option.map _ s.seq.shot) = _
    rw [Option.map_map]
    rfl
  lastEntry := rfl
  cursor := rfl
  integrating := by
    show (senseTick _ _).integrating = _
    rw [senseTick_eq]
  hold := by
    show holdTick s.lock.hold = .none ↔ _
    cases s.lock.hold <;> simp [holdTick]
  runState := rfl
  afterLeft := rfl
  setup := rfl
  pacer := by simp [Machine.passTime, timerTick]
  encoder := rfl
  mode := rfl
  count := Nat.le_refl _
  start := id
  lamps l hon := by simpa [Machine.passTime, LightChannel.on] using hon

end Undisturbed

end Sys2Proof.RunProofs
end

section
/-!
PROOFS. The events of a run: where runs, cycles and shots begin and end. Each is stated once, from a state in which the
sequencer rests (`Rested`) or a cycle may shoot (`CanShoot`), and the events of the part are put together from them.
-/

namespace Sys2Proof.RunProofs

open Sys2Proof.Machine Sys2Proof.Safety Sys2Proof.BlocksProofs

/-! ### A run with its sequencer at rest -/

/-- The sequencer rests with no shot, and a run may go on. -/
structure Rested (s : State) : Prop where
  still : Still s
  quiet : s.seq.state = .quiet
  no_shot : s.seq.shot = none
  runnable : Runnable s

/-- A rested state stays rested under updates of the run's state, timers and counts. -/
theorem Rested.of_same {s t : State} (h : Rested s)
    (hsame : (t.lights.channels, t.sense.integrating, t.lock.hold, t.seq.state, t.seq.shot, t.supply.mode, t.table) =
      (s.lights.channels, s.sense.integrating, s.lock.hold, s.seq.state, s.seq.shot, s.supply.mode, s.table))
    (hrange : 1 ≤ t.run.encoder ∧ t.run.encoder ≤ t.run.setup.encoderSpan) : Rested t := by
  simp only [Prod.mk.injEq] at hsame
  obtain ⟨hlights, hsense, hhold, hstate, hshot, hmode, htable⟩ := hsame
  refine ⟨⟨fun l => by rw [hlights]; exact h.still.dark l, hsense.trans h.still.unmeasured,
    hhold.trans h.still.unheld, hrange⟩, hstate.trans h.quiet, hshot.trans h.no_shot, hmode.trans h.runnable.1, ?_⟩
  rw [htable]
  exact h.runnable.2

theorem Rested.changeRun {s : State} (h : Rested s) (r : RunState) (c : RunCause) : Rested (changeRun r c s) := by
  refine h.of_same ?_ ?_
  · rw [changeRun_eq]
  · rw [changeRun_run]; exact h.still.encoder_range

/-- A sound state at rest in a run is rested. -/
theorem rested_of_runSound {s : State} (hs : RunSound s) (hq : s.seq.state = .quiet) (hrun : Runnable s) : Rested s := by
  have hshot := shot_none_of hs.1 (by rw [hq]; simp) (by rw [hq]; simp)
  exact ⟨still_of_no_shot hs hshot (by rw [hq]; simp), hq, hshot, hrun⟩

/-- A rested state is sound in every run state it may be in. -/
theorem Rested.runSound {s : State} (h : Rested s) (hpacer : PacerFits s) (hpaused : s.run.state ≠ .paused)
    (hfin : s.run.state = .finishing → s.run.afterLeft ≠ 0) : RunSound s :=
  runSound_of_quiet h.still h.quiet h.no_shot hpacer hpaused (fun _ => h.runnable) hfin

/-- A start event begins a sound run (R55). -/
theorem Rested.startEvent {s : State} (h : Rested s) : RunSound (startEvent s) := by
  have hopen : Rested (openRun s) := by
    obtain ⟨hlow, hhigh⟩ := h.still.encoder_range
    exact h.of_same rfl ⟨hlow.trans hhigh, Nat.le_refl _⟩
  have hstate : (Machine.startEvent s).run.state = startedState s.run.setup := by simp [Machine.startEvent]
  have hstarted : startedState s.run.setup = .delaying ∨ startedState s.run.setup = .running := by
    unfold startedState
    split
    · exact .inl rfl
    · exact .inr rfl
  have hpacer : PacerFits (Machine.startEvent s) := by
    unfold PacerFits
    rw [hstate]
    rcases hstarted with h | h <;> rw [h] <;> simp [Machine.startEvent, openRun, pacerStart, pacerState]
  refine Rested.runSound (hopen.changeRun _ _) hpacer ?_ ?_ <;>
    rw [hstate] <;>
    rcases hstarted with h | h <;> rw [h] <;> simp

/-- ARMED just entered, the gate may start the run at once (R56). -/
theorem Rested.gateCheck {s : State} (h : Rested s) (harmed : s.run.state = .armed) (hpacer : s.run.pacer = none) :
    RunSound (gateCheck s) := by
  unfold Machine.gateCheck
  split
  · exact h.startEvent
  · exact h.runSound (by simp [PacerFits, harmed, hpacer, pacerState]) (by rw [harmed]; simp) (by rw [harmed]; simp)

theorem Rested.armRun {s : State} (h : Rested s) (hpacer : s.run.pacer = none) : RunSound (armRun s) :=
  (h.changeRun _ _).gateCheck (by simp) (by simpa using hpacer)

/-- A run ends in IDLE or in ARMED (R65). -/
theorem runDestination_cases (k : StopKind) (repeats : Bool) :
    runDestination k repeats = .idle ∨ runDestination k repeats = .armed := by
  cases k <;> cases repeats <;> simp [runDestination]

/-- Run end leaves a sound state (R65). -/
theorem Rested.runEnd {s : State} (h : Rested s) : RunSound (runEnd s) := by
  have hclosed : Rested (closeRun s) := h.of_same rfl h.still.encoder_range
  have hended := hclosed.changeRun (runDestination s.run.stopKind s.run.setup.repeats) .runEnd
  unfold Machine.runEnd
  simp only
  split
  · next harmed => exact hended.gateCheck harmed (by simp [closeRun])
  · next hnot =>
    have hidle := (runDestination_cases s.run.stopKind s.run.setup.repeats).resolve_right (by simpa using hnot)
    exact hended.runSound (by simp [PacerFits, closeRun, hidle, pacerState]) (by simp [hidle]) (by simp [hidle])

/-- The check for a run end leaves a sound state (R64). -/
theorem Rested.runEndCheck {s : State} (h : Rested s) (hpacer : PacerFits s) (hpaused : s.run.state ≠ .paused) :
    RunSound (runEndCheck s) := by
  unfold Machine.runEndCheck
  split
  · exact h.runEnd
  · next hnot => exact h.runSound hpacer hpaused fun hfin hzero => hnot ⟨hfin, hzero, h.quiet⟩

/-! ### A run that may shoot -/

/-- An active run in OPERATE with no light on and no hold: a cycle or its next shot may begin, or the cycle close. -/
structure CanShoot (s : State) : Prop where
  still : Still s
  pacer : PacerFits s
  runnable : Runnable s
  active : s.run.state = .running ∨ s.run.state = .finishing

theorem CanShoot.with_seq {s : State} (h : CanShoot s) (q : Sequencer) : CanShoot { s with seq := q } :=
  ⟨⟨h.still.dark, h.still.unmeasured, h.still.unheld, h.still.encoder_range⟩, h.pacer, h.runnable, h.active⟩

theorem CanShoot.undisturbed {s t : State} (hs : CanShoot s) (h : Undisturbed s t) : CanShoot t :=
  ⟨h.still hs.still, h.pacerFits hs.pacer, h.runnable hs.runnable, by rw [h.runState]; exact hs.active⟩

/-- A sound, still state of an active run may shoot. -/
theorem canShoot_of_runSound {s : State} (hs : RunSound s) (hstill : Still s)
    (hactive : s.run.state = .running ∨ s.run.state = .finishing) : CanShoot s :=
  ⟨hstill, hs.1.pacer_runs, runnable_of_run hs.1 (by rcases hactive with h | h <;> rw [h] <;> simp), hactive⟩

/-- Flash start lights what was admitted: lights of the fired set, whole, not OFF, in OPERATE (R25, R111). -/
theorem beginFlash_sound {s : State} {sh : Shot} (hs : RunSound s) (hshot : s.seq.shot = some sh)
    (hlead : sh.phase = .lead) : RunSound (beginFlash sh s) := by
  have hstill : ∀ l, (s.lights.channels.get l).on = false := by
    intro l
    by_contra hon
    obtain ⟨⟨sh', hsh', hflash, -⟩, -⟩ := hs.2 l (by simpa using hon)
    cases hshot.symm.trans hsh'
    rw [hlead] at hflash
    cases hflash
  have hmode := operate_of_shotFits hs.1 (shotFits_of_coherent hs.1 hshot)
  constructor
  · refine { hs.1 with shot_in_flight := ?_, test_shot := ?_, integrates_in_flash := ?_ }
    · exact ⟨fun _ => hs.1.shot_in_flight.mp (by rw [hshot]; rfl), fun _ => rfl⟩
    · intro sh' hsh'
      cases hsh'
      exact hs.1.test_shot sh hshot
    · exact ⟨fun _ => ⟨_, rfl, rfl⟩, fun _ => rfl⟩
  · intro l hon
    simp only [beginFlash, admittedChannels, Octet.get_ofFn] at hon ⊢
    by_cases hfired : isFired ((admissions sh.entry s.regs s.lights.channels).get l) = true
    · have hoffered : hasLight sh.entry.lights l = true ∧ (s.regs.get l).mode ≠ .off ∧
          (s.lights.channels.get l).faulted = false := by
        by_contra hout
        simp [admissions, admission, hout, isFired] at hfired
      refine ⟨⟨_, rfl, rfl, by simpa [flashedShot] using hfired⟩, ?_, hoffered.2.1, hmode⟩
      simpa [admitChannel, hfired] using hoffered.2.2
    · simp [admitChannel, hfired, hstill l] at hon

theorem flashStart_sound {s : State} (hs : RunSound s) : RunSound (flashStart s) := by
  unfold flashStart
  split
  · next sh hshot =>
    split
    · next hlead => exact beginFlash_sound hs hshot hlead
    · exact hs
  · exact hs

/-- A shot put into LEAD in a sound state starts soundly, with lead 0 too (R24). -/
theorem startShot_sound {i : Nat} {test : Bool} {s : State} {e : ShotEntry} (he : s.table.entries[i]? = some e)
    (hlead : RunSound (enterLead i e test s)) : RunSound (startShot i test s) := by
  unfold startShot
  rw [he]
  simp only
  split
  · exact flashStart_sound hlead
  · exact hlead

/-- The next entry is defined unless the entry is the last of the sequence (R11). -/
theorem next_defined_of_not_last {t : ShotTable} {i : Nat} {e : ShotEntry} (h : isLastEntry t i e = false) :
    i + 1 < t.count := by
  by_contra hle
  simp [isLastEntry, Nat.not_lt.mp hle] at h

/-- A shot of a cycle starts at the cursor (R24). -/
theorem CanShoot.startShot {s : State} (h : CanShoot s) (hseq : s.seq.state = .shooting)
    (hdefined : s.seq.cursor < s.table.count) : RunSound (startShot s.seq.cursor false s) := by
  have he : s.table.entries[s.seq.cursor]? = some s.table.entries[s.seq.cursor] := List.getElem?_eq_getElem hdefined
  refine startShot_sound he ?_
  have hcan := h.with_seq (enterLead s.seq.cursor s.table.entries[s.seq.cursor] false s).seq
  exact runSound_of_shot (sh := leadShot s.seq.cursor s.table.entries[s.seq.cursor] false) hcan.still rfl
    (by simp [leadShot]) hcan.pacer hcan.runnable.1
    (.inr ⟨rfl, hseq, h.active, h.runnable.2, fun hlast => next_defined_of_not_last hlast⟩)

theorem CanShoot.nextShot {s : State} (h : CanShoot s) (hdefined : s.seq.cursor + 1 < s.table.count) :
    RunSound (nextShot s) :=
  (h.with_seq { s.seq with cursor := s.seq.cursor + 1, position := s.seq.position + 1, state := .shooting }).startShot
    rfl hdefined

/-- A cycle begin's number and position, before its due banks are applied (R23). -/
def numbered (s : State) : State := { s with seq.cycleNumber := wrap32 s.seq.cycleNumber, seq.position := 0 }

/-- The first shot of a cycle, at `seq_start` (R23). -/
def firstShot (s : State) : State :=
  startShot s.table.seqStart false { s with seq.cursor := s.table.seqStart, seq.state := .shooting }

theorem cycleBegin_eq (s : State) : cycleBegin s = firstShot (applyDueBanks (numbered s)) := by
  simp only [cycleBegin, firstShot, numbered]

theorem CanShoot.firstShot {s : State} (h : CanShoot s) : RunSound (firstShot s) :=
  (h.with_seq { s.seq with cursor := s.table.seqStart, state := .shooting }).startShot rfl h.runnable.2

/-- A cycle begins soundly, whatever its due banks configure (R23, R138). -/
theorem CanShoot.cycleBegin {s : State} (h : CanShoot s) : RunSound (cycleBegin s) := by
  have hnumbered : CanShoot (numbered s) := h.with_seq _
  rw [cycleBegin_eq]
  exact (hnumbered.undisturbed (.applyDueBanks _)).firstShot

/-- A cycle request is held or begins at once (R22, R75). -/
theorem CanShoot.openCycle {s : State} (h : CanShoot s) (hshot : s.seq.shot = none) : RunSound (openCycle s) := by
  have hrecord : CanShoot (openRecord s) := h.with_seq _
  unfold Machine.openCycle
  simp only
  split
  · split
    · exact runSound_of_held h.still.dark h.still.unmeasured h.still.encoder_range (by simp) rfl hshot h.pacer
        h.runnable h.active
    · exact (hrecord.with_seq { (openRecord s).seq with
        flags := { (openRecord s).seq.flags with unlocked := true } }).cycleBegin
  · exact hrecord.cycleBegin

theorem CanShoot.acceptCycle {s : State} (h : CanShoot s) (hshot : s.seq.shot = none) : RunSound (acceptCycle s) :=
  CanShoot.openCycle (s := { s with run.cycleCount := wrap32 s.run.cycleCount })
    ⟨⟨h.still.dark, h.still.unmeasured, h.still.unheld, h.still.encoder_range⟩, h.pacer, h.runnable, h.active⟩ hshot

/-! ### Cycle close -/

/-- The regulators' steps and the CYCLE_DONE report do not disturb the run (R38). -/
theorem closing_undisturbed (p : List Byte) (s : State) :
    Undisturbed s (raise .cycleDone p (updateRegs closeRegulator s)) :=
  (Undisturbed.updateRegs (fun r hr => by rwa [Undisturbed.closeRegulator_mode]) s).trans (.raise _ _ _)

theorem quietSequencer_rested {s : State} (hstill : Still s) (hrun : Runnable s) : Rested (quietSequencer s) :=
  ⟨⟨hstill.dark, hstill.unmeasured, hstill.unheld, hstill.encoder_range⟩, rfl, rfl, hrun⟩

/-- Cycle close in an active run leaves a sound state (R38). -/
theorem CanShoot.closeCycle {s : State} (h : CanShoot s) : RunSound (closeCycle s) := by
  unfold Machine.closeCycle
  have hclosed := h.undisturbed
    (closing_undisturbed (cycleDonePayload s.seq.cycleNumber s.seq.shotsRun (updateRegs closeRegulator s)) s)
  refine (quietSequencer_rested hclosed.still hclosed.runnable).runEndCheck hclosed.pacer ?_
  rw [quietSequencer_run]
  rcases hclosed.active with hr | hr <;> rw [hr] <;> simp

theorem runEndCheck_of_not_finishing {s : State} (h : s.run.state ≠ .finishing) : runEndCheck s = s := by
  simp [runEndCheck, h]

theorem runEndCheck_of_busy {s : State} (h : s.seq.state ≠ .quiet) : runEndCheck s = s := by
  simp [runEndCheck, h]

/-- Cycle close in PAUSED leaves the sequencer at rest, still PAUSED (R39). -/
theorem closeCycle_paused {s : State} (hstill : Still s) (hrun : Runnable s) (hp : s.run.state = .paused) :
    Rested (closeCycle s) ∧ (closeCycle s).run = s.run := by
  unfold closeCycle
  have hclosed := closing_undisturbed (cycleDonePayload s.seq.cycleNumber s.seq.shotsRun (updateRegs closeRegulator s)) s
  have hrunning : (quietSequencer (raise .cycleDone
      (cycleDonePayload s.seq.cycleNumber s.seq.shotsRun (updateRegs closeRegulator s))
      (updateRegs closeRegulator s))).run = s.run := by simp
  have hsame := runEndCheck_of_not_finishing (s := quietSequencer (raise .cycleDone
      (cycleDonePayload s.seq.cycleNumber s.seq.shotsRun (updateRegs closeRegulator s))
      (updateRegs closeRegulator s))) (by rw [hrunning, hp]; simp)
  exact ⟨hsame ▸ quietSequencer_rested (hclosed.still hstill) (hclosed.runnable hrun), hsame ▸ hrunning⟩

end Sys2Proof.RunProofs
end

section
/-!
PROOFS. Every event and every command keeps the run's invariant, and so every step does.
-/

namespace Sys2Proof.RunProofs

open Sys2Proof.Machine Sys2Proof.Safety Sys2Proof.BlocksProofs

/-! ### Stop events (R63) -/

/-- A stop event entering FINISHING with a cycle in progress (R63, R64). -/
theorem finishing_sound {s : State} (k : StopKind) (hs : RunSound s) (hrun : s.run.state = .running)
    (hbusy : s.seq.state ≠ .quiet) : RunSound (changeRun .finishing .stop (noteStop k s)) := by
  have hnot : ∀ r, s.run.state = r → r = .running := fun r h => h.symm.trans hrun
  have hpacer := hs.1.pacer_runs
  rw [hrun] at hpacer
  have hcoherent : Coherent { noteStop k s with run.state := .finishing } :=
    { hs.1 with
      idle_rest := fun h => by cases h
      testing_idle := fun h => by cases hnot _ (hs.1.testing_idle h)
      before_cycles := fun h => by rcases h with h | h <;> cases h
      paused_suspended := ⟨nofun, fun h => by cases hnot _ (hs.1.paused_suspended.mpr h)⟩
      needs_operate := fun _ => hs.1.needs_operate (.inl (by rw [hrun]; simp))
      start_defined := fun _ => hs.1.start_defined (by rw [hrun]; simp)
      finishing_busy := fun _ _ => hbusy
      pacer_runs := hpacer }
  exact (Undisturbed.raise _ _ _).runSound ⟨hcoherent, hs.2⟩

/-- Every stop event keeps the run sound (R39, R63, R64, R67). -/
theorem stopEvent_sound (k : StopKind) {s : State} (hs : RunSound s) : RunSound (stopEvent k s) := by
  unfold stopEvent
  split
  · exact hs
  · exact hs
  · next hrun =>
    have hrested := rested_of_runSound hs (hs.1.before_cycles (.inr hrun))
      (runnable_of_run hs.1 (by rw [hrun]; simp))
    exact Rested.runEnd (hrested.of_same rfl hrested.still.encoder_range)
  · next hrun =>
    by_cases hq : s.seq.state = .quiet
    · have hrested := rested_of_runSound hs hq (runnable_of_run hs.1 (by rw [hrun]; simp))
      have hnoted : Rested (noteStop k s) := hrested.of_same rfl hrested.still.encoder_range
      have hpacer := hs.1.pacer_runs
      rw [hrun] at hpacer
      exact (hnoted.changeRun _ _).runEndCheck (by simpa [PacerFits, noteStop, pacerState] using hpacer) (by simp)
    · rw [runEndCheck_of_busy (by simpa using hq)]
      exact finishing_sound k hs hrun hq
  · exact hs
  · next hrun =>
    have hseq := hs.1.paused_suspended.mp hrun
    have hshot := shot_none_of hs.1 (by rw [hseq]; simp) (by rw [hseq]; simp)
    have hstill := still_of_no_shot hs hshot (by rw [hseq]; simp)
    have hrunnable := runnable_of_run hs.1 (by rw [hrun]; simp)
    obtain ⟨hrested, hsame⟩ := closeCycle_paused (s := { noteStop k s with seq.flags.short := true })
      ⟨hstill.dark, hstill.unmeasured, hstill.unheld, hstill.encoder_range⟩ hrunnable hrun
    have hpacer := hs.1.pacer_runs
    rw [hrun] at hpacer
    refine (hrested.changeRun _ _).runEndCheck ?_ (by simp)
    unfold PacerFits
    rw [changeRun_run, hsame]
    simpa [noteStop, pacerState] using hpacer

/-! ### Cycle-source events (R57, R58, R59, R64) -/

theorem countDown_sound {s : State} (hs : RunSound s) (hrun : s.run.state = .delaying) : RunSound (countDown s) := by
  have hrested := rested_of_runSound hs (hs.1.before_cycles (.inr hrun)) (runnable_of_run hs.1 (by rw [hrun]; simp))
  have hcounted : Rested { s with run.delayLeft := s.run.delayLeft - 1 } :=
    hrested.of_same rfl hrested.still.encoder_range
  have hpacer := hs.1.pacer_runs
  rw [hrun] at hpacer
  unfold countDown
  simp only
  split
  · exact (hcounted.changeRun _ _).runSound (by simpa [PacerFits, pacerState] using hpacer) (by simp) (by simp)
  · exact (Undisturbed.of_same rfl rfl : Undisturbed s { s with run.delayLeft := s.run.delayLeft - 1 }).runSound hs

theorem acceptRunning_sound {s : State} (hs : RunSound s) (hrun : s.run.state = .running)
    (hq : s.seq.state = .quiet) : RunSound (acceptRunning s) := by
  have hrested := rested_of_runSound hs hq (runnable_of_run hs.1 (by rw [hrun]; simp))
  have haccepted := (canShoot_of_runSound hs hrested.still (.inl hrun)).acceptCycle hrested.no_shot
  unfold acceptRunning
  simp only
  split
  · exact stopEvent_sound _ haccepted
  · exact haccepted

theorem acceptFinishing_sound {s : State} (hs : RunSound s) (hrun : s.run.state = .finishing)
    (hq : s.seq.state = .quiet) : RunSound (acceptFinishing s) := by
  have hrested := rested_of_runSound hs hq (runnable_of_run hs.1 (by rw [hrun]; simp))
  have hcan := canShoot_of_runSound hs hrested.still (.inr hrun)
  have hcounted : CanShoot { s with run.afterLeft := s.run.afterLeft - 1 } :=
    ⟨⟨hcan.still.dark, hcan.still.unmeasured, hcan.still.unheld, hcan.still.encoder_range⟩, hcan.pacer,
      hcan.runnable, hcan.active⟩
  exact hcounted.acceptCycle hrested.no_shot

/-- Every cycle-source event keeps the run sound, by run state and sequencer state. -/
theorem cycleSource_sound {s : State} (hs : RunSound s) : RunSound (cycleSource s).state := by
  unfold cycleSource
  split
  · exact hs
  · exact hs
  · next hrun => exact countDown_sound hs hrun
  · next hrun =>
    split
    · next hq => exact acceptRunning_sound hs hrun hq
    · exact (Undisturbed.countMissed s).runSound hs
  · next hrun =>
    split
    · exact hs
    · split
      · next hq => exact acceptFinishing_sound hs hrun hq
      · exact (Undisturbed.countMissed s).runSound hs
  · exact (Undisturbed.countMissed s).runSound hs

theorem pacerExpiry_sound {s : State} (hs : RunSound s) : RunSound (pacerExpiry s) := by
  unfold pacerExpiry
  split
  · next hpacer =>
    have hrestart : Undisturbed s { s with run.pacer := some s.run.setup.pacerPeriod } :=
      { Undisturbed.refl s with pacer := by rw [hpacer]; rfl }
    exact cycleSource_sound (hrestart.runSound hs)
  · exact hs

/-- The encoder counter may stand anywhere in its range (section 3.1). -/
theorem encoder_sound {s : State} (hs : RunSound s) {n : Nat} (hlow : 1 ≤ n) (hhigh : n ≤ s.run.setup.encoderSpan) :
    RunSound { s with run.encoder := n } :=
  ⟨{ hs.1 with encoder_range := ⟨hlow, hhigh⟩ }, hs.2⟩

theorem encoderEdge_sound {s : State} (hs : RunSound s) : RunSound (encoderEdge s) := by
  obtain ⟨hlow, hhigh⟩ := hs.1.encoder_range
  unfold encoderEdge
  split
  · split
    · exact cycleSource_sound (encoder_sound hs (hlow.trans hhigh) (Nat.le_refl _))
    · exact encoder_sound hs (by omega) (by omega)
  · exact hs

/-! ### Shots (R31, R35, R36, R37) -/

/-- The effects of a flash end between the latch and the tail do not disturb the run (R31). -/
theorem flashResults_undisturbed (sh : Shot) (m : LineSet) (s : State) :
    Undisturbed s (noteClipped sh (recordShot sh m (handOffCycle sh (takeBaselines sh s)))) :=
  (((Undisturbed.takeBaselines sh s).trans (.handOffCycle sh _)).trans (.recordShot sh m _)).trans (.noteClipped sh _)

theorem latchReadings_still {s : State} {sh : Shot} (c : Quad Nat) (hs : RunSound s) (hshot : s.seq.shot = some sh) :
    Still (latchReadings c s) where
  dark l := by simp [latchReadings, allLightsOff, channelOff, LightChannel.on]
  unmeasured := rfl
  unheld := by
    by_contra hheld
    have hseq := hs.1.held.mp hheld
    rcases hs.1.shot_in_flight.mp (by rw [hshot]; rfl) with h | h <;> rw [hseq] at h <;> cases h
  encoder_range := hs.1.encoder_range

theorem tailEnd_sound {s : State} (hs : RunSound s) : RunSound (tailEnd s) := by
  unfold tailEnd
  split
  · next sh hshot =>
    split
    · next htail =>
      have hkind := shotFits_of_coherent hs.1 hshot
      have hstill := still_of_runSound hs
        (fun sh' hsh' => by cases hshot.symm.trans hsh'; rw [htail]; simp)
        (by rcases hkind with ⟨-, h, -⟩ | ⟨-, h, -⟩ <;> rw [h] <;> simp)
      have hmode := operate_of_shotFits hs.1 hkind
      exact runSound_of_shot (sh := { sh with phase := .gap, timeLeft := sh.entry.gap })
        ⟨hstill.dark, hstill.unmeasured, hstill.unheld, hstill.encoder_range⟩ rfl (by simp) hs.1.pacer_runs hmode hkind
    · exact hs
  · exact hs

/-- A flash end leaves the lights off and the shot in its tail or gap (R31). -/
theorem flashEnd_sound (c : Quad Nat) (m : LineSet) {s : State} (hs : RunSound s) : RunSound (flashEnd c m s) := by
  unfold flashEnd
  split
  · next sh hshot =>
    split
    · have hkind := shotFits_of_coherent hs.1 hshot
      have hmode := operate_of_shotFits hs.1 hkind
      have hresults := flashResults_undisturbed sh m (latchReadings c s)
      have hstill := hresults.still (latchReadings_still c hs hshot)
      have htail : RunSound (enterPhase sh .tail sh.entry.tail (noteClipped sh (recordShot sh m
          (handOffCycle sh (takeBaselines sh (latchReadings c s)))))) :=
        runSound_of_shot (sh := { sh with phase := .tail, timeLeft := sh.entry.tail })
          ⟨hstill.dark, hstill.unmeasured, hstill.unheld, hstill.encoder_range⟩ rfl (by simp)
          (hresults.pacerFits hs.1.pacer_runs) (hresults.mode.trans hmode)
          (hresults.shotFits hkind)
      unfold finishFlash
      simp only
      split
      · exact tailEnd_sound htail
      · exact htail
    · exact hs
  · exact hs

/-- A cycle is suspended only while RUNNING (R36, R66). -/
theorem suspendCycle_sound {s : State} (h : CanShoot s) (hrun : s.run.state = .running)
    (hnext : s.seq.lastEntry = false → s.seq.cursor + 1 < s.table.count) : RunSound (suspendCycle s) := by
  have hpacer := h.pacer
  unfold PacerFits at hpacer
  rw [hrun] at hpacer
  have hsuspended : RunSound { s with seq.state := .suspended, seq.shot := none, run.state := .paused } :=
    runSound_of_suspended ⟨h.still.dark, h.still.unmeasured, h.still.unheld, h.still.encoder_range⟩ rfl rfl hpacer rfl
      h.runnable hnext
  exact (Undisturbed.raise _ _ _).runSound hsuspended

/-- A gap end suspends or closes the cycle or starts its next shot (R36). -/
theorem finishCycleShot_sound (sh : Shot) {s : State} (h : CanShoot s)
    (hnext : s.seq.lastEntry = false → s.seq.cursor + 1 < s.table.count) : RunSound (finishCycleShot sh s) := by
  have hcounted : CanShoot { s with seq.shotsRun := s.seq.shotsRun + 1 } := h.with_seq _
  unfold finishCycleShot
  simp only
  split
  · next hpause =>
    have hnot : s.run.state ≠ .finishing := by
      simp only [pauseActs, Bool.and_eq_true, decide_eq_true_eq] at hpause
      exact hpause.2
    exact suspendCycle_sound hcounted (h.active.resolve_right hnot) hnext
  · split
    · exact hcounted.closeCycle
    · next hlast => exact hcounted.nextShot (hnext (by simpa using hlast))

theorem gapEnd_sound {s : State} (hs : RunSound s) : RunSound (gapEnd s) := by
  unfold gapEnd
  split
  · next sh hshot =>
    split
    · next hgap =>
      have hkind := shotFits_of_coherent hs.1 hshot
      have hstill := still_of_runSound hs
        (fun sh' hsh' => by cases hshot.symm.trans hsh'; rw [hgap]; simp)
        (by rcases hkind with ⟨-, h, -⟩ | ⟨-, h, -⟩ <;> rw [h] <;> simp)
      rcases hkind with ⟨htest, -, hidle⟩ | ⟨htest, -, hactive, -, hnext⟩
      · rw [if_pos htest]
        exact runSound_of_quiet ⟨hstill.dark, hstill.unmeasured, hstill.unheld, hstill.encoder_range⟩ rfl rfl
          hs.1.pacer_runs (by simp [hidle]) (by simp [hidle]) (by simp [hidle])
      · rw [if_neg (by simp [htest])]
        exact finishCycleShot_sound sh (canShoot_of_runSound hs hstill hactive) hnext
    · exact hs
  · exact hs

/-- A resume event closes the suspended cycle or starts its next shot (R37, R66). -/
theorem resume_sound {s : State} (hs : RunSound s) (hrun : s.run.state = .paused) : RunSound (resume s) := by
  have hseq := hs.1.paused_suspended.mp hrun
  have hshot := shot_none_of hs.1 (by rw [hseq]; simp) (by rw [hseq]; simp)
  have hstill := still_of_no_shot hs hshot (by rw [hseq]; simp)
  have hpacer := hs.1.pacer_runs
  rw [hrun] at hpacer
  have hrunnable := runnable_of_run hs.1 (by rw [hrun]; simp)
  have hmoved : CanShoot { s with run.state := .running } :=
    ⟨⟨hstill.dark, hstill.unmeasured, hstill.unheld, hstill.encoder_range⟩, hpacer, hrunnable, .inl rfl⟩
  have hcan : CanShoot (changeRun .running .resume s) := hmoved.undisturbed (.raise _ _ _)
  unfold resume
  simp only
  split
  · exact hcan.closeCycle
  · next hlast =>
    refine hcan.nextShot ?_
    simpa using hs.1.next_defined (.inr hseq) (by simpa using hlast)

/-! ### The TRIG input (R51, R56) -/

theorem trigCycle_sound {s : State} (hs : RunSound s) : RunSound (trigCycle s) := by
  unfold trigCycle
  split
  · exact cycleSource_sound hs
  · exact hs

theorem trigStop_sound {s : State} (hs : RunSound s) : RunSound (trigStop s) := by
  unfold trigStop
  split
  · exact stopEvent_sound _ hs
  · exact hs

theorem armed_rested {s : State} (hs : RunSound s) (hrun : s.run.state = .armed) : Rested s :=
  rested_of_runSound hs (hs.1.before_cycles (.inl hrun)) (runnable_of_run hs.1 (by rw [hrun]; simp))

theorem trigOperate_sound {s : State} (hs : RunSound s) : RunSound (trigOperate s) := by
  have hboth := trigStop_sound (trigCycle_sound hs)
  unfold trigOperate
  split
  · exact hs
  · next hrun =>
    unfold trigArmed
    split
    · exact hs
    · exact (armed_rested hs hrun).startEvent
    · exact (armed_rested hs hrun).startEvent
  · exact hboth
  · exact hboth
  · exact trigCycle_sound hs
  · next hrun =>
    split
    · exact resume_sound hs hrun
    · exact hboth

theorem setTrig_sound (active : Bool) {s : State} (hs : RunSound s) : RunSound (setTrig active s) :=
  (Undisturbed.of_same rfl rfl : Undisturbed s (setTrig active s)).runSound hs

theorem trigInactiveEdge_sound {s : State} (hs : RunSound s) : RunSound (trigInactiveEdge s) := by
  have hpin := setTrig_sound false hs
  unfold trigInactiveEdge
  simp only
  split
  · unfold gateStop
    split
    · exact stopEvent_sound _ hpin
    · exact stopEvent_sound _ hpin
    all_goals exact hpin
  · exact hpin

/-! ### The supply (R175, R176, R178) -/

/-- The supply mode may change in IDLE with no test shot in flight (R26, R175). -/
theorem changeSupply_sound (m : SupplyMode) (c : SupplyCause) {s : State} (hs : RunSound s)
    (hidle : s.run.state = .idle) (htest : s.seq.state ≠ .testing) : RunSound (changeSupply m c s) := by
  have hq := (hs.1.idle_rest hidle).resolve_right htest
  have hshot := shot_none_of hs.1 (by rw [hq]; simp) htest
  have hstill := still_of_no_shot hs hshot (by rw [hq]; simp)
  have hmoved : RunSound { s with supply.mode := m, supply.supen := decide (m ≠ .standby) } :=
    runSound_of_quiet ⟨hstill.dark, hstill.unmeasured, hstill.unheld, hstill.encoder_range⟩ hq hshot hs.1.pacer_runs
      (by simp [hidle]) (by simp [hidle]) (by simp [hidle])
  exact (Undisturbed.raise _ _ _).runSound hmoved

/-- Outside OPERATE no run and no test shot is on (R26). -/
theorem resting_outside_operate {s : State} (hs : RunSound s) (h : s.supply.mode ≠ .operate) :
    s.run.state = .idle ∧ s.seq.state ≠ .testing := by
  have := mt hs.1.needs_operate h
  push Not at this
  exact this

theorem wakeUp_sound (c : SupplyCause) {s : State} (hs : RunSound s) (h : s.supply.mode ≠ .operate) :
    RunSound (wakeUp c s) := by
  obtain ⟨hidle, htest⟩ := resting_outside_operate hs h
  have htimer : Undisturbed s { s with supply.settleTimer := some (s.supply.settle * 1000) } := .of_same rfl rfl
  exact changeSupply_sound _ _ (htimer.runSound hs) hidle htest

theorem enterStandby_sound {s : State} (hs : RunSound s) (hidle : s.run.state = .idle) (htest : s.seq.state ≠ .testing) :
    RunSound (enterStandby s) := by
  have htimer : Undisturbed s
      { s with supply.settleTimer := none, lock.syncOk := false, lock.watch := none } := .of_same rfl rfl
  exact changeSupply_sound _ _ (htimer.runSound hs) hidle htest

/-- OPERATE suits every run state (R26, R178). -/
theorem settleExpiry_sound {s : State} (hs : RunSound s) : RunSound (settleExpiry s) := by
  unfold settleExpiry
  split
  · have hcoherent : Coherent { s with
        supply.settleTimer := none, supply.mode := .operate, supply.supen := decide (SupplyMode.operate ≠ .standby) } :=
      { hs.1 with needs_operate := fun _ => rfl }
    refine (Undisturbed.raise _ _ _).runSound ⟨hcoherent, fun l hon => ?_⟩
    obtain ⟨hfired, hwhole, hlit, -⟩ := hs.2 l hon
    exact ⟨hfired, hwhole, hlit, rfl⟩
  · exact hs

theorem trigActiveEdge_sound {s : State} (hs : RunSound s) : RunSound (trigActiveEdge s) := by
  have hpin := setTrig_sound true hs
  unfold trigActiveEdge
  simp only
  split
  · next hmode =>
    split
    · exact wakeUp_sound _ hpin (by rw [hmode]; simp)
    · exact hpin
  · exact hpin
  · exact trigOperate_sound hpin

/-! ### The line lock (R76, R77) -/

/-- A held cycle released may begin (R76, R77). -/
theorem canShoot_of_held {s : State} (hs : RunSound s) (hheld : s.lock.hold ≠ .none) :
    CanShoot { s with lock.hold := .none } := by
  have hseq := hs.1.held.mp hheld
  have hactive := run_active hs.1 (.inr hseq)
  have hshot := shot_none_of hs.1 (by rw [hseq]; simp) (by rw [hseq]; simp)
  have hrunnable := runnable_of_run hs.1 (by rcases hactive with h | h <;> rw [h] <;> simp)
  have hdark : ∀ l, (s.lights.channels.get l).on = false := by
    intro l
    by_contra hon
    obtain ⟨⟨sh, hsh, -⟩, -⟩ := hs.2 l (by simpa using hon)
    rw [hshot] at hsh
    cases hsh
  have hmeasure : s.sense.integrating = false := by
    by_contra hon
    obtain ⟨sh, hsh, -⟩ := hs.1.integrates_in_flash.mp (by simpa using hon)
    rw [hshot] at hsh
    cases hsh
  exact ⟨⟨hdark, hmeasure, rfl, hs.1.encoder_range⟩, hs.1.pacer_runs, hrunnable, hactive⟩

theorem syncEdge_sound (d : Polarity) {s : State} (hs : RunSound s) : RunSound (syncEdge d s) := by
  have hwatch := (Undisturbed.restartWatch s).runSound hs
  unfold syncEdge
  split
  · generalize restartWatch s = t at hwatch
    unfold releaseByEdge
    split
    · next hedge =>
      split
      · have hphase : Undisturbed t { t with lock.hold := .phase t.lock.setup.phase } :=
          { Undisturbed.refl t with hold := by rw [hedge]; simp }
        exact hphase.runSound hwatch
      · exact (canShoot_of_held hwatch (by rw [hedge]; simp)).cycleBegin
    · exact hwatch
    · exact hwatch
  · exact hs

theorem releaseUnlocked_sound {s : State} (hs : RunSound s) : RunSound (releaseUnlocked s) := by
  have released (hheld : s.lock.hold ≠ .none) :
      RunSound (cycleBegin { s with seq.flags.unlocked := true, lock.hold := .none }) :=
    ((canShoot_of_held hs hheld).with_seq { s.seq with flags := { s.seq.flags with unlocked := true } }).cycleBegin
  unfold releaseUnlocked
  split
  · exact hs
  · next hedge => exact released (by rw [hedge]; simp)
  · next hphase => exact released (by rw [hphase]; simp)

theorem watchExpiry_sound {s : State} (hs : RunSound s) : RunSound (watchExpiry s) := by
  unfold watchExpiry
  split
  · have hwatch : Undisturbed s { s with lock.watch := none } := .of_same rfl rfl
    have hsync : Undisturbed { s with lock.watch := none } { s with lock.watch := none, lock.syncOk := false } :=
      .of_same rfl rfl
    exact releaseUnlocked_sound (((hwatch.trans hsync).trans (.raise _ _ _)).runSound hs)
  · exact hs

theorem phaseDelayEnd_sound {s : State} (hs : RunSound s) : RunSound (phaseDelayEnd s) := by
  unfold phaseDelayEnd
  split
  · next hphase => exact (canShoot_of_held hs (by rw [hphase]; simp)).cycleBegin
  · exact hs
  · exact hs

/-! ### Faults (R117) -/

theorem faultArrival_sound (l : Light) {s : State} (hs : RunSound s) : RunSound (faultArrival l s) := by
  have hline : Undisturbed s (setFaultLine l true s) := .of_same rfl rfl
  have hpin := hline.runSound hs
  unfold faultArrival
  simp only
  split
  · exact hpin
  · have hraised := ((Undisturbed.latchAndCut l (setFaultLine l true s)).trans (.raise .fault
      (faultPayload l ((setFaultLine l true s).lights.channels.get l).on
        (cutIfOn l (setFaulted l (setFaultLine l true s)))) _)).runSound hpin
    unfold latchFault
    simp only
    split
    · exact stopEvent_sound _ hraised
    · exact hraised

/-! ### ABORT and the resets (R43, R44, R68, R170, R172) -/

/-- In IDLE with the sequencer at rest every state with its pacer stopped is sound. -/
theorem runSound_of_idle {s : State} (h : Still s) (hq : s.seq.state = .quiet) (hshot : s.seq.shot = none)
    (hpacer : s.run.pacer = none) (hidle : s.run.state = .idle) : RunSound s :=
  runSound_of_quiet h hq hshot (by simp [PacerFits, hpacer, hidle, pacerState]) (by simp [hidle]) (by simp [hidle])
    (by simp [hidle])

theorem stopSequencer_still {s : State} (hrange : 1 ≤ s.run.encoder ∧ s.run.encoder ≤ s.run.setup.encoderSpan) :
    Still (stopSequencer s) :=
  ⟨fun l => by simp [stopSequencer, allLightsOff, channelOff, LightChannel.on], rfl, rfl, hrange⟩

/-- The Run Controller's part of ABORT and of a run reset leaves a sound state in IDLE (R68, R70). -/
theorem goIdle_sound (c : RunCause) {s : State} (h : Still s) (hq : s.seq.state = .quiet) (hshot : s.seq.shot = none) :
    RunSound (goIdle c (stopRun s)) := by
  obtain ⟨hlow, hhigh⟩ := h.encoder_range
  have hstopped : Still (stopRun s) := ⟨h.dark, h.unmeasured, h.unheld, hlow.trans hhigh, Nat.le_refl _⟩
  unfold goIdle
  split
  · next hidle => exact runSound_of_idle hstopped hq hshot rfl hidle
  · have hmoved : RunSound { stopRun s with run.state := .idle } :=
      runSound_of_idle ⟨hstopped.dark, hstopped.unmeasured, hstopped.unheld, hstopped.encoder_range⟩ hq hshot rfl rfl
    exact (Undisturbed.raise _ _ _).runSound hmoved

/-- ABORT stops the sequencer, and the report of a discarded cycle disturbs nothing (R43). -/
theorem abortSequencer_undisturbed (s : State) : Undisturbed (stopSequencer s) (abortSequencer s) := by
  unfold abortSequencer
  split
  · exact .discardCycle _ _ _
  · exact .discardCycle _ _ _
  · exact .discardCycle _ _ _
  · exact .refl _
  · exact .refl _

theorem abortRun_sound {s : State} (hs : RunSound s) : RunSound (abortRun s) := by
  have habort := abortSequencer_undisturbed s
  refine goIdle_sound _ (habort.still (stopSequencer_still hs.1.encoder_range)) habort.seqState ?_
  have hshot := habort.shot
  rw [show (stopSequencer s).seq.shot = none from rfl] at hshot
  exact Option.map_eq_none_iff.mp hshot

theorem runReset_sound {s : State} (hs : RunSound s) : RunSound (runReset s) :=
  (Undisturbed.clearRunning _).runSound (goIdle_sound _ (stopSequencer_still hs.1.encoder_range) rfl rfl)

theorem fullReset_sound (c : ResetCause) (s : State) : RunSound (fullReset c s) := by
  refine runSound_of_idle ⟨fun l => ?_, rfl, rfl, ?_⟩ rfl rfl rfl rfl
  · simp [fullReset, LightUnit.reset, LightChannel.reset, LightChannel.on]
  · simp [fullReset, RunController.reset, RunSetup.reset]

theorem startLights_undisturbed (s : State) : Undisturbed s (startLights s) :=
  .of_lamps rfl fun l hon => by simp [startLights, lightAtCompletion, LightChannel.reset, LightChannel.on] at hon

/-! ### The commands that do not disturb the run -/

/-- The commands that act on the run, its setup, the supply mode, a test shot or the whole table. -/
def movesRun (c : Command) : Bool :=
  match c with
  | .reset | .tableClear | .fire | .runSetup | .start | .cycle | .halt | .abort | .standby | .wake => true
  | _ => false

theorem undisturbed_of_onlyStage {s t : State} (h : OnlyStage s t) : Undisturbed s t := by
  obtain ⟨u, rfl⟩ := h
  exact .of_same rfl rfl

theorem clearFault_undisturbed (l : Light) (s : State) : Undisturbed s (clearFault l s) := by
  unfold clearFault
  refine .cond ?_ (.refl s)
  have hfault : Undisturbed s (updateLight l (fun c => { c with faulted := false }) s) :=
    .updateLight (f := fun c => { c with faulted := false }) (fun _ => rfl) (fun _ _ => rfl) l s
  exact hfault.trans (.updateReg (fun r hr => by split <;> exact hr) l _)

theorem putLockSetup_undisturbed (setup : LockSetup) (s : State) : Undisturbed s (putLockSetup setup s) :=
  .cond (.of_same rfl rfl) (.of_same rfl rfl)

theorem takeShotPut_undisturbed (p : List Byte) (s : State) : Undisturbed s (takeShotPut p s).state := by
  unfold takeShotPut
  split
  · exact .refl s
  · split
    · split
      · exact .refl s
      · next h => exact .putShot h
    · exact .refl s

theorem takeSeqSelect_undisturbed (p : List Byte) (s : State) : Undisturbed s (takeSeqSelect p s).state := by
  unfold takeSeqSelect
  split
  · exact .refl s
  · split
    · split
      · exact .refl s
      · next h => exact .putSeqStart h
    · exact .refl s

theorem takeLockSetup_undisturbed (p : List Byte) (s : State) : Undisturbed s (takeLockSetup p s).state := by
  unfold takeLockSetup
  split
  · exact .refl s
  · split
    · exact .refl s
    · exact putLockSetup_undisturbed _ s

theorem takeRegForce_undisturbed (p : List Byte) (s : State) : Undisturbed s (takeRegForce p s).state := by
  unfold takeRegForce
  split
  · exact .refl s
  · split
    · exact .refl s
    · next h => exact .putRegForce h

theorem takeFaultClear_undisturbed (p : List Byte) (s : State) : Undisturbed s (takeFaultClear p s).state := by
  unfold takeFaultClear
  split
  · exact .refl s
  · split
    · exact .refl s
    · exact clearFault_undisturbed _ s

theorem takeStageLaunch_undisturbed (p : List Byte) (s : State) : Undisturbed s (takeStageLaunch p s).state := by
  unfold takeStageLaunch
  split
  · exact .refl s
  · simp only
    split
    · split
      · exact .applyBank _ s
      · exact undisturbed_of_onlyStage (setBank_onlyStage _ _ s)
    · exact .refl s

theorem takeReportMask_undisturbed (p : List Byte) (s : State) : Undisturbed s (takeReportMask p s).state := by
  unfold takeReportMask
  split
  · exact .refl s
  · exact .of_same rfl rfl

theorem takeSenseSet_undisturbed (p : List Byte) (s : State) : Undisturbed s (takeSenseSet p s).state := by
  unfold takeSenseSet
  split
  · exact .refl s
  · exact .of_same rfl rfl

theorem takeResultRead_undisturbed (p : List Byte) (s : State) : Undisturbed s (takeResultRead p s).state := by
  unfold takeResultRead
  split
  · exact .refl s
  · exact .of_same rfl rfl

theorem takeResultFlush_undisturbed (p : List Byte) (s : State) : Undisturbed s (takeResultFlush p s).state := by
  unfold takeResultFlush
  split
  · exact .refl s
  · exact .of_same rfl rfl

theorem takeResultThreshold_undisturbed (p : List Byte) (s : State) : Undisturbed s (takeResultThreshold p s).state := by
  unfold takeResultThreshold
  split
  · exact .refl s
  · exact .of_same rfl rfl

theorem takeSupplySetup_undisturbed (p : List Byte) (s : State) : Undisturbed s (takeSupplySetup p s).state := by
  unfold takeSupplySetup
  split
  · exact .refl s
  · exact .of_same rfl rfl

theorem takeRegMode_undisturbed (p : List Byte) (s : State) : Undisturbed s (takeRegMode p s).state := by
  unfold takeRegMode
  split
  · exact .refl s
  · exact .putRegMode _ _ s

theorem takeRegBands_undisturbed (p : List Byte) (s : State) : Undisturbed s (takeRegBands p s).state := by
  unfold takeRegBands
  split
  · exact .refl s
  · exact .putRegBands _ _ s

theorem takeRegLimits_undisturbed (p : List Byte) (s : State) : Undisturbed s (takeRegLimits p s).state := by
  unfold takeRegLimits
  split
  · exact .refl s
  · exact .putRegLimits _ _ s

theorem takeLightDuty_undisturbed (p : List Byte) (s : State) : Undisturbed s (takeLightDuty p s).state := by
  unfold takeLightDuty
  split
  · exact .refl s
  · exact .putLightDuty _ _ _ s

theorem executeDirect_undisturbed {c : Command} (h : movesRun c = false) (p : List Byte) (s : State) :
    Undisturbed s (executeDirect c p s).state := by
  by_cases hr : isReading c = true
  · rw [reading_state hr]
    exact .refl s
  · cases c
    case reportMask => exact takeReportMask_undisturbed p s
    case shotPut => exact takeShotPut_undisturbed p s
    case seqSelect => exact takeSeqSelect_undisturbed p s
    case senseSet => exact takeSenseSet_undisturbed p s
    case lockSetup => exact takeLockSetup_undisturbed p s
    case regMode => exact takeRegMode_undisturbed p s
    case regForce => exact takeRegForce_undisturbed p s
    case regBands => exact takeRegBands_undisturbed p s
    case regLimits => exact takeRegLimits_undisturbed p s
    case lightDuty => exact takeLightDuty_undisturbed p s
    case faultClear => exact takeFaultClear_undisturbed p s
    case stageOpen => exact undisturbed_of_onlyStage (takeStageOpen_onlyStage p s)
    case stageClose => exact undisturbed_of_onlyStage (takeStageClose_onlyStage p s)
    case stageLaunch => exact takeStageLaunch_undisturbed p s
    case stageDrop => exact undisturbed_of_onlyStage (takeStageDrop_onlyStage p s)
    case stageLayout => exact undisturbed_of_onlyStage (takeStageLayout_onlyStage p s)
    case stageAlternate => exact undisturbed_of_onlyStage (takeStageAlternate_onlyStage p s)
    case resultRead => exact takeResultRead_undisturbed p s
    case resultFlush => exact takeResultFlush_undisturbed p s
    case resultThreshold => exact takeResultThreshold_undisturbed p s
    case supplySetup => exact takeSupplySetup_undisturbed p s
    case reset | tableClear | fire | runSetup | start | cycle | halt | abort | standby | wake => cases h
    all_goals exact absurd rfl hr

/-! ### The commands that act on the run -/

section Commands

variable {s : State} (p : List Byte)

theorem takeReset_sound (hs : RunSound s) : RunSound (takeReset p s).state := by
  unfold takeReset
  split
  · exact hs
  · exact runReset_sound hs
  · exact (Undisturbed.of_same rfl rfl : Undisturbed s { s with link.executor := .holding }).runSound hs

/-- The table is emptied only in IDLE with no test shot (R18). -/
theorem takeTableClear_sound (hs : RunSound s) : RunSound (takeTableClear p s).state := by
  unfold takeTableClear
  split
  · exact hs
  · split
    · next h =>
      have hq := (hs.1.idle_rest h.1).resolve_right h.2
      refine ⟨{ hs.1 with start_defined := fun hrun => absurd h.1 hrun, next_defined := fun hor => ?_ }, hs.2⟩
      rcases hor with hseq | hseq <;> cases hq.symm.trans hseq
    · exact hs

/-- FIRE puts a test shot into LEAD in IDLE and OPERATE (R41). -/
theorem takeFire_sound (hs : RunSound s) : RunSound (takeFire p s).state := by
  unfold takeFire
  split
  · exact hs
  · next i _ =>
    split
    · exact hs
    · next hmode =>
      have hoperate : s.supply.mode = .operate := by simpa using hmode
      split
      · next hrest =>
        split
        · next hi =>
          have he : s.table.entries[i]? = some s.table.entries[i] := List.getElem?_eq_getElem hi
          have hq := hrest.2
          have hshot := shot_none_of hs.1 (by rw [hq]; simp) (by rw [hq]; simp)
          have hstill := still_of_no_shot hs hshot (by rw [hq]; simp)
          refine startShot_sound (s := { s with seq.state := .testing }) he ?_
          exact runSound_of_shot (sh := leadShot i s.table.entries[i] true)
            ⟨hstill.dark, hstill.unmeasured, hstill.unheld, hstill.encoder_range⟩ rfl (by simp [leadShot])
            hs.1.pacer_runs hoperate (.inl ⟨rfl, rfl, hrest.1⟩)
        · exact hs
      · exact hs

theorem pacer_none_of_idle (hs : Coherent s) (hidle : s.run.state = .idle) : s.run.pacer = none := by
  by_contra hon
  have hrunning := (hs.pacer_runs.mp (Option.isSome_iff_ne_none.mpr hon)).2
  rw [hidle] at hrunning
  cases hrunning

theorem parseRunSetup_span {setup : RunSetup} (h : parseRunSetup p = .ok setup) : 1 ≤ setup.encoderSpan := by
  have hvalue := (sized_ok h).2
  split at hvalue
  · obtain ⟨hok, hsetup⟩ := checked_some hvalue
    subst hsetup
    simp only [setupInRange, Bool.and_eq_true, decide_eq_true_eq] at hok
    exact hok.1.2
  · cases hvalue

/-- RUN_SETUP is stored in IDLE, where the pacer is stopped (R46, R48). -/
theorem takeRunSetup_sound (hs : RunSound s) : RunSound (takeRunSetup p s).state := by
  unfold takeRunSetup
  split
  · exact hs
  · next setup hsetup =>
    split
    · next hidle =>
      have hpacer := pacer_none_of_idle hs.1 hidle
      have hcoherent : Coherent (putRunSetup setup s) :=
        { hs.1 with
          pacer_runs := by simp [putRunSetup, hpacer, hidle, pacerState]
          encoder_range := ⟨parseRunSetup_span p hsetup, Nat.le_refl _⟩ }
      exact ⟨hcoherent, hs.2⟩
    · exact hs

/-- START that passes its checks opens, arms or resumes a run (R53). -/
theorem startByState_sound {t : State} (hs : RunSound s) (hmode : s.supply.mode = .operate)
    (htest : s.seq.state ≠ .testing) (hstart : s.table.seqStart < s.table.count) (h : startByState s = some t) :
    RunSound t := by
  have idle_rested (hidle : s.run.state = .idle) : Rested s :=
    rested_of_runSound hs ((hs.1.idle_rest hidle).resolve_right htest) ⟨hmode, hstart⟩
  unfold startByState at h
  split at h
  · next hidle =>
    split at h <;> cases h
    · exact (idle_rested hidle).startEvent
    · exact (idle_rested hidle).armRun (pacer_none_of_idle hs.1 hidle)
    · exact (idle_rested hidle).armRun (pacer_none_of_idle hs.1 hidle)
  · next harmed =>
    split at h <;> cases h
    · exact (armed_rested hs harmed).startEvent
    · exact hs
    · exact hs
  · next hpaused =>
    split at h <;> cases h
    exact resume_sound hs hpaused
  all_goals cases h

theorem takeStart_sound (hs : RunSound s) : RunSound (takeStart p s).state := by
  unfold takeStart
  split
  · exact hs
  · split
    · exact hs
    · next hmode =>
      split
      · exact hs
      · next htest =>
        split
        · exact hs
        · next hstart =>
          split
          · exact hs
          · next h => exact startByState_sound hs (by simpa using hmode) htest (Nat.not_le.mp hstart) h

theorem takeCycle_sound (hs : RunSound s) : RunSound (takeCycle p s).state := by
  unfold takeCycle
  split
  · exact hs
  · split
    · exact cycleSource_sound hs
    · exact hs

/-- HALT disarms an ARMED run, and is a stop event in a run (R67). -/
theorem haltRun_sound (hs : RunSound s) : RunSound (haltRun s) := by
  unfold haltRun
  split
  · exact hs
  · next harmed =>
    have hpacer := hs.1.pacer_runs
    rw [harmed] at hpacer
    exact ((armed_rested hs harmed).changeRun _ _).runSound (by simpa [PacerFits, pacerState] using hpacer)
      (by simp) (by simp)
  · exact stopEvent_sound _ hs
  · exact stopEvent_sound _ hs
  · exact stopEvent_sound _ hs
  · exact hs

theorem takeHalt_sound (hs : RunSound s) : RunSound (takeHalt p s).state := by
  unfold takeHalt
  split
  · exact hs
  · exact haltRun_sound hs

theorem takeAbort_sound (hs : RunSound s) : RunSound (takeAbort p s).state := by
  unfold takeAbort
  split
  · exact hs
  · split
    · exact abortRun_sound hs
    · exact hs

theorem takeStandby_sound (hs : RunSound s) : RunSound (takeStandby p s).state := by
  unfold takeStandby
  split
  · exact hs
  · split
    · split
      · next h => exact enterStandby_sound hs h.1 h.2
      · exact hs
    · next hmode =>
      obtain ⟨hidle, htest⟩ := resting_outside_operate hs (by rw [hmode]; simp)
      exact enterStandby_sound hs hidle htest
    · exact hs

theorem takeWake_sound (hs : RunSound s) : RunSound (takeWake p s).state := by
  unfold takeWake
  split
  · exact hs
  · split
    · next hmode => exact wakeUp_sound _ hs (by rw [hmode]; simp)
    · exact hs
    · exact hs

/-- Every command executed by its block keeps the run sound. -/
theorem executeDirect_sound (c : Command) (hs : RunSound s) : RunSound (executeDirect c p s).state := by
  by_cases h : movesRun c = false
  · exact (executeDirect_undisturbed h p s).runSound hs
  · cases c
    case reset => exact takeReset_sound p hs
    case tableClear => exact takeTableClear_sound p hs
    case fire => exact takeFire_sound p hs
    case runSetup => exact takeRunSetup_sound p hs
    case start => exact takeStart_sound p hs
    case cycle => exact takeCycle_sound p hs
    case halt => exact takeHalt_sound p hs
    case abort => exact takeAbort_sound p hs
    case standby => exact takeStandby_sound p hs
    case wake => exact takeWake_sound p hs
    all_goals exact absurd rfl h

end Commands

/-! ### Every step -/

/-- Every block's effects keep the run sound. -/
theorem runSound_kept : KeptBy RunSound where
  link s k := (Undisturbed.of_same rfl rfl : Undisturbed s { s with link := k }).runSound
  pins s k := (Undisturbed.of_same rfl rfl : Undisturbed s { s with pins := k }).runSound
  resetCause s k := (Undisturbed.of_same rfl rfl : Undisturbed s { s with resetCause := k }).runSound
  pending s k := (Undisturbed.of_same rfl rfl : Undisturbed s { s with pending := k }).runSound
  command c p _ := executeDirect_sound p c
  capture b c p s _ _ := (undisturbed_of_onlyStage (capture_onlyStage b c p s)).runSound
  pacerExpiry _ := pacerExpiry_sound
  encoderEdge _ := encoderEdge_sound
  trigActiveEdge _ := trigActiveEdge_sound
  trigInactiveEdge _ := trigInactiveEdge_sound
  syncEdge d _ := syncEdge_sound d
  watchExpiry _ := watchExpiry_sound
  phaseDelayEnd _ := phaseDelayEnd_sound
  flashStart _ := flashStart_sound
  firingEnd l s := (Undisturbed.lightOff l s).runSound
  flashEnd c m _ := flashEnd_sound c m
  tailEnd _ := tailEnd_sound
  gapEnd _ := gapEnd_sound
  dutyTimerExpiry s := (Undisturbed.dutyTimerExpiry s).runSound
  faultArrival l _ := faultArrival_sound l
  settleExpiry _ := settleExpiry_sound
  fullReset c s _ := fullReset_sound c s
  startLights s := (startLights_undisturbed s).runSound
  passTime s := (Undisturbed.passTime s).runSound

/-- Settles O59: what the blocks' effects keep, every step keeps. -/
theorem stepKeepsRunSound : Obligations.StepKeepsRunSound :=
  fun _ _ hs h => runSound_kept.step hs h

end Sys2Proof.RunProofs
end

section
/-!
PROOFS. Shot execution and sensing (02_shot_execution_and_sensing.md): what passes in an idle microsecond, how a shot
starts, flashes and ends, phase by phase, and the settled statements about them.
-/

namespace Sys2Proof.ShotProofs

open Sys2Proof.Machine Sys2Proof.Safety Sys2Proof.ShotTableProofs Sys2Proof.BlocksProofs

/-! ### An idle microsecond (R28; log entry 4) -/

theorem step_of_noPending {s : State} (h : s.pending = []) : step s = .next (passTime s) := by
  simp [step, h]

/-- Settles O3: on an empty queue the step is `passTime`, read field by field. -/
theorem idleStepPassesTime : Obligations.IdleStepPassesTime := by
  intro s hempty
  refine ⟨passTime s, step_of_noPending hempty, rfl, senseTick_eq _ _, fun i => ?_, rfl, rfl, rfl, ?_, rfl, rfl, rfl,
    fun l => ?_⟩
  · rw [Nat.mul_one]
    exact senseTick_get s.pins.photocurrents s.sense i
  · cases h : s.lock.hold <;> simp [passTime, holdTick, h]
  · simp [passTime]

/-! ### Events and commands that leave the Link Port alone -/

/-- An event that leaves the Link Port as it was leaves the transmitter nothing to begin (R164). -/
theorem event_silent {f : State → State} {s : State} (h : Resting s) (hu : Untouched s (f s))
    (hlink : (f s).link = s.link) : event f s = .next (f s) := by
  have ⟨_, hidle, _⟩ := h
  rw [event_resting h hu, startSend_settled (by rw [hlink]; exact hidle)]

/-! ### Shot start (R24) and FIRE (R41) -/

/-- Shot start at a defined entry: LEAD, passed at once when `lead` is 0 (R24). -/
theorem startShot_defined {i : Nat} {test : Bool} {s : State} {e : ShotEntry} (h : s.table.entries[i]? = some e) :
    startShot i test s = leadPassed e (enterLead i e test s) := by
  simp [startShot, h, leadPassed]

theorem fire_ready {tag : Byte} {i : Nat} {s : State} (h : Ready s) :
    exec (.fire tag (le1 i)) s =
      .next (replied 0x98#8 tag (takeFire (le1 i) s).reply (takeFire (le1 i) s).state) := by
  show hostCommand .fire tag (le1 i) s = _
  rw [hostCommand_ready h (by simp), executeCommand_unstageable rfl]
  rfl

/-- FIRE by the checks of R41 in their order. -/
theorem takeFire_le1 {i : Nat} (h : i < 256) (s : State) :
    takeFire (le1 i) s =
      if s.supply.mode ≠ .operate then refuse .notReady s
      else if s.run.state = .idle ∧ s.seq.state = .quiet then
        if i < s.table.count then accept (startShot i true { s with seq.state := .testing }) (le1 i)
        else refuse .badValue s
      else refuse .busy s := by
  simp [takeFire, parseIndex_le1 h]

/-- Settles O33, by the checks of R41 in their order. -/
theorem fireStartsTestShot : Obligations.FireStartsTestShot := by
  intro tag i s hready hi
  refine ⟨fun hmode => ?_, fun hmode hbusy => ?_, fun hmode hidle hquiet => ⟨fun hcount => ?_, fun e he => ?_⟩⟩ <;>
    rw [fire_ready hready, takeFire_le1 hi]
  · rw [if_pos hmode]
    rfl
  · rw [if_neg (not_not.mpr hmode), if_neg (by tauto)]
    rfl
  · rw [if_neg (not_not.mpr hmode), if_pos ⟨hidle, hquiet⟩, if_neg (Nat.not_lt.mpr hcount)]
    rfl
  · have hdefined : i < s.table.count := (List.getElem?_eq_some_iff.mp he).1
    rw [if_neg (not_not.mpr hmode), if_pos ⟨hidle, hquiet⟩, if_pos hdefined,
      startShot_defined (s := { s with seq.state := .testing }) he]
    rfl

/-! ### Admission of the lights (R25, R112, R113) -/

/-- A light that is not in the entry, OFF or faulted is left out (R25). -/
theorem admission_leftOut {e : ShotEntry} {l : Light} {r : Regulator} {c : LightChannel}
    (h : ¬(hasLight e.lights l = true ∧ r.mode ≠ .off ∧ c.faulted = false)) : admission e l r c = .leftOut :=
  if_neg h

/-- Any other light is offered its drive and judged (R25). -/
theorem admission_offered {e : ShotEntry} {l : Light} {r : Regulator} {c : LightChannel}
    (h : hasLight e.lights l = true ∧ r.mode ≠ .off ∧ c.faulted = false) :
    admission e l r c = judgeOffer c (offerOf e r).1 (offerOf e r).2 (leastDuration e r) :=
  if_pos h

/-- A fired light is on at its offered current for its admitted duration, its charge debited (R111, R112). -/
theorem admitChannel_fired {current : Nat} {a : Admission} {c : LightChannel} (h : isFired a = true) :
    admitChannel current a c = { c with
      heat := c.heat + chargeOf (admittedDuration a) current, firing := some ⟨current, admittedDuration a⟩ } :=
  if_pos h

theorem admitChannel_unfired {current : Nat} {a : Admission} {c : LightChannel} (h : isFired a = false) :
    admitChannel current a c = c := by
  simp [admitChannel, h]

theorem admittedDuration_unfired {a : Admission} (h : isFired a = false) : admittedDuration a = 0 := by
  cases a with
  | leftOut | noRoom => rfl
  | whole | clipped => cases h

/-- An admission never raises heat above the heat limit (R114). -/
theorem admitChannel_heat_le (e : ShotEntry) (l : Light) (r : Regulator) (c : LightChannel) :
    (admitChannel (offerOf e r).2 (admission e l r c) c).heat ≤ max c.heatLimit c.heat := by
  by_cases hoffered : hasLight e.lights l = true ∧ r.mode ≠ .off ∧ c.faulted = false
  · rw [admission_offered hoffered]
    cases hfired : isFired (judgeOffer c (offerOf e r).1 (offerOf e r).2 (leastDuration e r)) with
    | false =>
      rw [admitChannel_unfired hfired]
      exact le_max_right _ _
    | true =>
      have hroom := admitted_charge_le_room c _ _ _ hfired
      rw [admitChannel_fired hfired]
      simp only [roomOf] at hroom ⊢
      omega
  · rw [admission_leftOut hoffered]
    exact le_max_right _ _

/-- What flash start makes of an offered light: it fits its room, is clipped to it, or has no room (R112, R113). -/
theorem judgeOffer_cases (c : LightChannel) (duration current least : Nat) :
    judgeOffer c duration current least =
      if duration * current / 1024 ≤ c.heatLimit - c.heat then .whole duration
      else if 1 ≤ (c.heatLimit - c.heat) * 1024 / current ∧ least ≤ (c.heatLimit - c.heat) * 1024 / current then
        .clipped ((c.heatLimit - c.heat) * 1024 / current)
      else .noRoom := rfl

/-! ### The flash length (R26) -/

theorem le_largest (o : Octet Nat) (l : Light) : o.get l ≤ largest o := by
  unfold largest
  fin_cases l <;> simp only [Octet.get] <;> omega

theorem largest_lt {o : Octet Nat} {n : Nat} (h : ∀ l, o.get l < n) : largest o < n :=
  max_lt (max_lt (max_lt (h 0) (h 1)) (max_lt (h 2) (h 3))) (max_lt (max_lt (h 4) (h 5)) (max_lt (h 6) (h 7)))

/-- The largest of eight numbers is one of them. -/
theorem largest_attained (o : Octet Nat) : ∃ l, o.get l = largest o := by
  by_contra hnone
  push Not at hnone
  exact (largest_lt fun l => lt_of_le_of_ne (le_largest o l) (hnone l)).false

/-- Membership of a built set, by its bit (R183). -/
theorem lightsWhere_bit (f : Light → Bool) (l : Light) : (lightsWhere f).getLsbD l.val = f l :=
  hasLight_lightsWhere f l

/-- The flash phase is at least as long as the window and as every admitted duration (R26). -/
theorem admittedDuration_le_flashLength (e : ShotEntry) (a : Octet Admission) (l : Light) :
    admittedDuration (a.get l) ≤ flashLengthOf e a := by
  rw [← Octet.get_map admittedDuration a l]
  exact (le_largest _ l).trans (le_max_right _ _)

/-- The flash phase is no longer than it has to be: the window, or a fired light's duration (R26). -/
theorem flashLength_attained (e : ShotEntry) (a : Octet Admission) :
    flashLengthOf e a = e.window ∨ ∃ l, isFired (a.get l) = true ∧ admittedDuration (a.get l) = flashLengthOf e a := by
  obtain ⟨l, hl⟩ := largest_attained (a.map admittedDuration)
  rw [Octet.get_map] at hl
  cases hfired : isFired (a.get l) with
  | false =>
    rw [admittedDuration_unfired hfired] at hl
    exact .inl (by simp [flashLengthOf, ← hl])
  | true =>
    rcases le_total e.window (largest (a.map admittedDuration)) with h | h
    · exact .inr ⟨l, hfired, hl.trans (max_eq_right h).symm⟩
    · exact .inl (max_eq_left h)

/-! ### Flash start (R25, R26, R28) -/

theorem flashStart_lead {s : State} {sh : Shot} (hsh : s.seq.shot = some sh) (hphase : sh.phase = .lead) :
    flashStart s = beginFlash sh s := by
  simp [flashStart, hsh, hphase]

theorem flashStart_otherwise {s : State} (h : ∀ sh, s.seq.shot = some sh → sh.phase ≠ .lead) : flashStart s = s := by
  unfold flashStart
  split
  · next sh hsh => exact if_neg (h sh hsh)
  · rfl

@[simp] theorem flashStart_link (s : State) : (flashStart s).link = s.link := by
  unfold flashStart
  split
  · split <;> rfl
  · rfl

theorem exec_flashStart {s : State} (h : Resting s) : exec .flashStart s = .next (flashStart s) :=
  event_silent h (flashStart_untouched s) (flashStart_link s)

/-- One light's channel after flash start: its admission carried out. -/
theorem beginFlash_channel (sh : Shot) (s : State) (l : Light) :
    (beginFlash sh s).lights.channels.get l =
      admitChannel (offerOf sh.entry (s.regs.get l)).2
        (admission sh.entry l (s.regs.get l) (s.lights.channels.get l)) (s.lights.channels.get l) := by
  simp [beginFlash, admittedChannels, admissions]

theorem admissions_get (e : ShotEntry) (regs : Octet Regulator) (channels : Octet LightChannel) (l : Light) :
    (admissions e regs channels).get l = admission e l (regs.get l) (channels.get l) := by
  simp [admissions]

theorem flashedShot_fired (sh : Shot) (a : Octet Admission) (l : Light) :
    (flashedShot sh a).fired.getLsbD l.val = isFired (a.get l) :=
  hasLight_lightsWhere (fun l => isFired (a.get l)) l

theorem flashedShot_clipped (sh : Shot) (a : Octet Admission) (l : Light) :
    (flashedShot sh a).clipped.getLsbD l.val = isClipped (a.get l) :=
  hasLight_lightsWhere (fun l => isClipped (a.get l)) l

/-- The admission of one light carried out, from the drive it is offered (R25, R112, R113). -/
theorem admission_carriedOut {e : ShotEntry} {l : Light} {r : Regulator} {c : LightChannel}
    {duration current least : Nat} (hduration : (offerOf e r).1 = duration) (hcurrent : (offerOf e r).2 = current)
    (hleast : leastDuration e r = least) :
    let a := admission e l r c
    let c' := admitChannel (offerOf e r).2 a c
    let room := c.heatLimit - c.heat
    let shortened := room * 1024 / current
    if e.lights.getLsbD l.val = true ∧ r.mode ≠ .off ∧ c.faulted = false then
      if duration * current / 1024 ≤ room then
        isFired a = true ∧ isClipped a = false ∧
        c' = { c with heat := c.heat + duration * current / 1024, firing := some ⟨current, duration⟩ }
      else if 1 ≤ shortened ∧ least ≤ shortened then
        isFired a = true ∧ isClipped a = true ∧
        c' = { c with heat := c.heat + shortened * current / 1024, firing := some ⟨current, shortened⟩ }
      else isFired a = false ∧ isClipped a = true ∧ c' = c
    else isFired a = false ∧ isClipped a = false ∧ c' = c := by
  intro a c' room shortened
  split
  · next hoffered =>
    have ha : a = judgeOffer c duration current least := by
      rw [← hduration, ← hcurrent, ← hleast]
      exact admission_offered hoffered
    have hc' : c' = admitChannel current (judgeOffer c duration current least) c := by rw [← ha, ← hcurrent]
    rw [hc', ha]
    split
    · next hwhole =>
      rw [judgeOffer_cases, if_pos hwhole]
      exact ⟨rfl, rfl, rfl⟩
    · next hwhole =>
      rw [judgeOffer_cases, if_neg hwhole]
      split <;> exact ⟨rfl, rfl, rfl⟩
  · next hout =>
    have ha : a = .leftOut := admission_leftOut hout
    have hc' : c' = admitChannel (offerOf e r).2 .leftOut c := by rw [← ha]
    rw [hc', ha]
    exact ⟨rfl, rfl, rfl⟩

/-- Settles O34: flash start is `beginFlash`, read light by light through each light's admission. -/
theorem flashStartAdmits : Obligations.FlashStartAdmits := by
  intro s hrest
  refine ⟨fun hnone => by rw [exec_flashStart hrest, flashStart_otherwise hnone], fun sh hsh hphase => ?_⟩
  have hfiring {l : Light} (hl : isFired (admission sh.entry l (s.regs.get l) (s.lights.channels.get l)) = true) :
      ((beginFlash sh s).lights.channels.get l).firing = some ⟨(offerOf sh.entry (s.regs.get l)).2,
        admittedDuration (admission sh.entry l (s.regs.get l) (s.lights.channels.get l))⟩ := by
    rw [beginFlash_channel, admitChannel_fired hl]
  refine ⟨beginFlash sh s, flashedShot sh (admissions sh.entry s.regs s.lights.channels),
    by rw [exec_flashStart hrest, flashStart_lead hsh hphase], rfl, rfl,
    fun l => ?_, le_max_left _ _, fun l f hl hf => ?_, ?_, fun l => ?_⟩
  · rw [flashedShot_fired, flashedShot_clipped, admissions_get, beginFlash_channel]
    refine admission_carriedOut ?_ ?_ ?_
    · cases h : sh.entry.fixed <;> simp [offerOf, h]
    · cases h : sh.entry.fixed <;> simp [offerOf, h]
    · cases h : sh.entry.fixed <;> simp [leastDuration, h]
  · rw [flashedShot_fired, admissions_get] at hl
    rw [hfiring hl, Option.some.injEq] at hf
    rw [← hf, ← admissions_get]
    exact admittedDuration_le_flashLength _ _ l
  · refine (flashLength_attained sh.entry (admissions sh.entry s.regs s.lights.channels)).imp_right
      fun ⟨l, hl, hlength⟩ => ?_
    rw [admissions_get] at hl hlength
    exact ⟨l, _, by rw [flashedShot_fired, admissions_get]; exact hl, hfiring hl, hlength⟩
  · rw [beginFlash_channel]
    exact admitChannel_heat_le _ _ _ _

end Sys2Proof.ShotProofs
end

section
/-!
PROOFS. The later phases of a shot (02_shot_execution_and_sensing.md sections 2.6 to 2.9): firing end, tail end, gap
end and cycle close.
-/

namespace Sys2Proof.ShotProofs

open Sys2Proof.Machine Sys2Proof.Safety Sys2Proof.RunProofs

/-! ### The last entry and the flags byte (R11, R12, section 11.5.3) -/

theorem isLastEntry_iff {t : ShotTable} {i : Nat} (e : ShotEntry) (h : i < t.count) :
    isLastEntry t i e = true ↔ (e.endFlag = true ∧ t.seqStart ≤ i) ∨ i + 1 = t.count := by
  simp only [isLastEntry, Bool.or_eq_true, Bool.and_eq_true, decide_eq_true_eq]
  refine or_congr_right ?_
  omega

/-- The flags byte of CYCLE_DONE, bit by bit (section 11.5.3). -/
theorem cycleFlagsByte_bits (f : CycleFlags) :
    (cycleFlagsByte f).getLsbD 0 = f.short ∧ (cycleFlagsByte f).getLsbD 1 = f.aborted ∧
    (cycleFlagsByte f).getLsbD 2 = f.unlocked ∧ (cycleFlagsByte f).getLsbD 3 = f.lost ∧
    (cycleFlagsByte f).getLsbD 4 = f.clipped := by
  simp only [cycleFlagsByte, flagBit, BitVec.getLsbD_or, getLsbD_weight]
  simp

theorem cycleFlagsByte_lt (f : CycleFlags) : (cycleFlagsByte f).toNat < 2 ^ 5 := by
  have all : ∀ a b c d g : Bool,
      (flagBit a 0x01#8 ||| flagBit b 0x02#8 ||| flagBit c 0x04#8 ||| flagBit d 0x08#8 |||
        flagBit g 0x10#8).toNat < 2 ^ 5 := by decide
  exact all _ _ _ _ _

/-- No flag stands above bit 4 (section 11.5.3). -/
theorem cycleFlagsByte_high (f : CycleFlags) {n : Nat} (h : 5 ≤ n) : (cycleFlagsByte f).getLsbD n = false :=
  Nat.testBit_lt_two_pow ((cycleFlagsByte_lt f).trans_le (Nat.pow_le_pow_right (by decide) h))

/-! ### Firing end and tail end (R27, R35) -/

theorem exec_firingEnd {s : State} (h : Resting s) (l : Light) :
    exec (.firingEnd l) s = .next (lightOff l s) :=
  event_silent h (.of_link rfl rfl rfl) rfl

theorem tailEnd_tail {s : State} {sh : Shot} (hsh : s.seq.shot = some sh) (hphase : sh.phase = .tail) :
    tailEnd s = releaseCameras sh s := by
  simp [tailEnd, hsh, hphase]

theorem tailEnd_otherwise {s : State} (h : ∀ sh, s.seq.shot = some sh → sh.phase ≠ .tail) : tailEnd s = s := by
  unfold tailEnd
  split
  · next sh hsh => exact if_neg (h sh hsh)
  · rfl

@[simp] theorem tailEnd_link (s : State) : (tailEnd s).link = s.link := by
  unfold tailEnd
  split
  · split <;> rfl
  · rfl

theorem exec_tailEnd {s : State} (h : Resting s) : exec .tailEnd s = .next (tailEnd s) :=
  event_silent h (tailEnd_untouched s) (tailEnd_link s)

/-! ### Gap end (R36, R42) -/

theorem gapEnd_otherwise {s : State} (h : ∀ sh, s.seq.shot = some sh → sh.phase ≠ .gap) : gapEnd s = s := by
  unfold gapEnd
  split
  · next sh hsh => exact if_neg (h sh hsh)
  · rfl

theorem gapEnd_test {s : State} {sh : Shot} (hsh : s.seq.shot = some sh) (hphase : sh.phase = .gap)
    (htest : sh.test = true) : gapEnd s = quietSequencer s := by
  simp [gapEnd, hsh, hphase, htest]

theorem gapEnd_cycle {s : State} {sh : Shot} (hsh : s.seq.shot = some sh) (hphase : sh.phase = .gap)
    (htest : sh.test = false) : gapEnd s = finishCycleShot sh s := by
  simp [gapEnd, hsh, hphase, htest]

theorem exec_gapEnd {s : State} (h : Resting s) : exec .gapEnd s = .next (startSend (gapEnd s)) :=
  event_resting h (gapEnd_untouched s)

/-- A gap end that raises no report. -/
theorem exec_gapEnd_silent {s : State} (h : Resting s) (hlink : (gapEnd s).link = s.link) :
    exec .gapEnd s = .next (gapEnd s) :=
  event_silent h (gapEnd_untouched s) hlink

/-- PAUSE takes effect unless the start source is TRIG_GATE or the run is FINISHING (R36). -/
theorem pauseActs_iff (e : ShotEntry) (s : State) :
    pauseActs e s = true ↔ e.pause = true ∧ s.run.setup.startSource ≠ .trigGate ∧ s.run.state ≠ .finishing := by
  simp [pauseActs, and_assoc]

theorem pauseActs_false {e : ShotEntry} {s : State}
    (h : e.pause = false ∨ s.run.setup.startSource = .trigGate ∨ s.run.state = .finishing) :
    pauseActs e s = false := by
  rcases h with h | h | h <;> simp [pauseActs, h]

/-- One more shot of the cycle has run (R36). -/
def shotCounted (s : State) : State := { s with seq.shotsRun := s.seq.shotsRun + 1 }

/-- Gap end of a cycle's shot: the cycle is suspended, closed, or goes on (R36). -/
theorem finishCycleShot_eq (sh : Shot) (s : State) :
    finishCycleShot sh s =
      if pauseActs sh.entry s then suspendCycle (shotCounted s)
      else if s.seq.lastEntry then closeCycle (shotCounted s)
      else nextShot (shotCounted s) := rfl

theorem finishCycleShot_suspends {sh : Shot} {s : State} (hpause : pauseActs sh.entry s = true) :
    finishCycleShot sh s = suspendCycle (shotCounted s) := by
  rw [finishCycleShot_eq, if_pos hpause]

theorem finishCycleShot_closes {sh : Shot} {s : State} (hpause : pauseActs sh.entry s = false)
    (hlast : s.seq.lastEntry = true) : finishCycleShot sh s = closeCycle (shotCounted s) := by
  simp [finishCycleShot_eq, hpause, hlast]

theorem finishCycleShot_goesOn {sh : Shot} {s : State} (hpause : pauseActs sh.entry s = false)
    (hlast : s.seq.lastEntry = false) : finishCycleShot sh s = nextShot (shotCounted s) := by
  simp [finishCycleShot_eq, hpause, hlast]

theorem leadPassed_link (e : ShotEntry) (s : State) : (leadPassed e s).link = s.link := by
  unfold leadPassed
  split
  · exact flashStart_link s
  · rfl

/-- The next shot of the cycle starts at the entry after `cursor` (R36). -/
theorem nextShot_defined {s : State} {e : ShotEntry} (h : s.table.entries[s.seq.cursor + 1]? = some e) :
    nextShot s = leadPassed e (enterLead (s.seq.cursor + 1) e false
      { s with seq.cursor := s.seq.cursor + 1, seq.position := s.seq.position + 1, seq.state := .shooting }) :=
  startShot_defined h

/-! ### Cycle close (R38, R40) -/

/-- What a report does to the Link Port depends on the Link Port alone (R165). -/
theorem raise_link_of_link (k : ReportKind) (p : List Byte) {s t : State} (h : s.link = t.link) :
    (raise k p s).link = (raise k p t).link := by
  unfold raise
  rw [h]
  split
  · split
    · rfl
    · rfl
  · exact h

/-- Raising a report does not read the sequencer. -/
theorem quietSequencer_raise (k : ReportKind) (p : List Byte) (s : State) :
    quietSequencer (raise k p s) = raise k p (quietSequencer s) := by
  have hlink := raise_link_of_link k p (quietSequencer_link s)
  rw [raise_eq k p (quietSequencer s), hlink]
  conv_lhs => rw [raise_eq]
  rfl

/-- A closed cycle before the run may end: the regulators stepped, the sequencer QUIET, CYCLE_DONE raised (R38). -/
def cycleClosed (s : State) : State :=
  raise .cycleDone (cycleDonePayload s.seq.cycleNumber s.seq.shotsRun (updateRegs closeRegulator s))
    (quietSequencer (updateRegs closeRegulator s))

theorem closeCycle_eq (s : State) : closeCycle s = runEndCheck (cycleClosed s) := by
  unfold closeCycle cycleClosed
  rw [← quietSequencer_raise]
  rfl

theorem cycleClosed_run (s : State) : (cycleClosed s).run = s.run := by
  simp [cycleClosed]

theorem cycleClosed_quiet (s : State) : (cycleClosed s).seq.state = .quiet := by
  simp [cycleClosed, quietSequencer]

/-- A run that is not FINISHING, or has a cycle left to accept, goes on after a cycle close (R64). -/
theorem closeCycle_goesOn {s : State} (h : s.run.state ≠ .finishing ∨ 0 < s.run.afterLeft) :
    closeCycle s = cycleClosed s := by
  rw [closeCycle_eq, runEndCheck, cycleClosed_run, if_neg]
  rintro ⟨hfinishing, hnone, -⟩
  rcases h with h | h
  · exact h hfinishing
  · omega

/-- A FINISHING run with no cycle left to accept ends at cycle close (R64). -/
theorem closeCycle_ends {s : State} (hfinishing : s.run.state = .finishing) (hnone : s.run.afterLeft = 0) :
    closeCycle s = runEnd (cycleClosed s) := by
  rw [closeCycle_eq, runEndCheck, cycleClosed_run, if_pos ⟨hfinishing, hnone, cycleClosed_quiet s⟩]

/-- Settles O36, phase by phase; gap end of a cycle's shot by PAUSE and the last-entry marker. -/
theorem phaseEnds : Obligations.PhaseEnds := by
  refine ⟨fun t i e hi => isLastEntry_iff e hi, fun f => ?_, lightsWhere_bit, fun s hrest => ⟨fun l => ?_,
    fun hno => ?_, fun sh hsh hphase => ?_, fun hno => ?_, fun sh hsh hphase => ⟨fun htest => ?_, fun htest hpause hgate hrun => ?_,
    fun htest hacts => ⟨fun hlast e he => ?_, fun hlast => ?_⟩⟩⟩⟩
  · obtain ⟨h0, h1, h2, h3, h4⟩ := cycleFlagsByte_bits f
    exact ⟨h0, h1, h2, h3, h4, fun n => cycleFlagsByte_high f⟩
  · exact exec_firingEnd hrest l
  · rw [exec_tailEnd hrest, tailEnd_otherwise hno]
  · rw [exec_tailEnd hrest, tailEnd_tail hsh hphase]
    rfl
  · rw [exec_gapEnd_silent hrest (by rw [gapEnd_otherwise hno]), gapEnd_otherwise hno]
  · have hgap := gapEnd_test hsh hphase htest
    rw [exec_gapEnd_silent hrest (by rw [hgap, quietSequencer_link]), hgap]
    rfl
  · rw [exec_gapEnd hrest, gapEnd_cycle hsh hphase htest,
      finishCycleShot_suspends ((pauseActs_iff _ _).mpr ⟨hpause, hgate, hrun⟩)]
    rfl
  · have hgap := (gapEnd_cycle hsh hphase htest).trans (finishCycleShot_goesOn (pauseActs_false hacts) hlast)
    have hnext := nextShot_defined (s := shotCounted s) he
    rw [exec_gapEnd_silent hrest (by rw [hgap, hnext, leadPassed_link]; rfl), hgap, hnext]
    rfl
  · have hgap := (gapEnd_cycle hsh hphase htest).trans (finishCycleShot_closes (pauseActs_false hacts) hlast)
    refine ⟨fun hrun => ?_, fun hfinishing hnone => ?_⟩
    · rw [exec_gapEnd hrest, hgap, closeCycle_goesOn (s := shotCounted s) hrun]
      rfl
    · rw [exec_gapEnd hrest, hgap, closeCycle_ends (s := shotCounted s) hfinishing hnone]
      rfl

end Sys2Proof.ShotProofs
end

section
/-!
PROOFS. Flash end (02_shot_execution_and_sensing.md section 2.6): what each of its steps writes, then the whole.
-/

namespace Sys2Proof.ShotProofs

open Sys2Proof.Machine Sys2Proof.Safety

/-! ### The result record (R33, R34, R149, R150, R155) -/

theorem offerRecord_room {r : ResultRecord} {s : State} (h : s.results.records.length < 512) :
    offerRecord r s = addRecord r s :=
  if_pos h

theorem offerRecord_full {r : ResultRecord} {s : State} (h : 512 ≤ s.results.records.length) :
    offerRecord r s = discardRecord r s :=
  if_neg (Nat.not_lt.mpr h)

@[simp] theorem addRecord_seq (r : ResultRecord) (s : State) : (addRecord r s).seq = s.seq := by
  simp only [addRecord]
  split
  · exact raise_seq _ _ _
  · rfl

@[simp] theorem addRecord_results (r : ResultRecord) (s : State) :
    (addRecord r s).results = { s.results with records := s.results.records ++ [r] } := by
  simp only [addRecord]
  split
  · exact raise_results _ _ _
  · rfl

/-- A record that brings the count to the threshold raises RESULTS_READY (R155). -/
theorem addRecord_link (r : ResultRecord) (s : State) :
    (addRecord r s).link =
      (if s.results.records.length + 1 = s.results.threshold
        then raise .resultsReady (le2 (s.results.records.length + 1) ++ le2 s.results.threshold ++
          le4 s.results.lost) s else s).link := by
  simp only [addRecord, resultsReadyPayload, ResultQueue.count, List.length_append, List.length_singleton]
  split
  · exact raise_link_of_link _ _ rfl
  · rfl

/-- A record is offered: the Result Queue, the LOST flag and the reports change, and nothing else. -/
theorem recordShot_eq (sh : Shot) (m : LineSet) (s : State) :
    recordShot sh m s = { s with
      seq := (recordShot sh m s).seq, results := (recordShot sh m s).results, link := (recordShot sh m s).link } := by
  unfold recordShot
  split
  · rfl
  · unfold offerRecord
    split
    · unfold addRecord
      simp only
      split
      · rw [raise_eq]
      · rfl
    · rfl

theorem recordShot_seq (sh : Shot) (m : LineSet) (s : State) :
    (recordShot sh m s).seq = { s.seq with flags := { s.seq.flags with
      lost := s.seq.flags.lost ||
        (!sh.entry.skip && decide (512 ≤ s.results.records.length) && !sh.test) } } := by
  cases hskip : sh.entry.skip with
  | true => simp [recordShot, hskip]
  | false =>
    rcases Nat.lt_or_ge s.results.records.length 512 with hroom | hfull
    · simp [recordShot, hskip, offerRecord_room hroom, Nat.not_le.mpr hroom]
    · simp [recordShot, hskip, offerRecord_full hfull, hfull, discardRecord, recordOf]

theorem recordShot_results (sh : Shot) (m : LineSet) (s : State) :
    (recordShot sh m s).results =
      if sh.entry.skip then s.results
      else if 512 ≤ s.results.records.length then
        { s.results with lost := min (s.results.lost + 1) 4294967295 }
      else { s.results with records := s.results.records ++ [recordOf sh m s] } := by
  cases hskip : sh.entry.skip with
  | true => simp [recordShot, hskip]
  | false =>
    rcases Nat.lt_or_ge s.results.records.length 512 with hroom | hfull
    · simp [recordShot, hskip, offerRecord_room hroom, Nat.not_le.mpr hroom]
    · simp [recordShot, hskip, offerRecord_full hfull, hfull, discardRecord, saturate, top32]

theorem recordShot_link (sh : Shot) (m : LineSet) (s : State) :
    (recordShot sh m s).link =
      (if sh.entry.skip = false ∧ s.results.records.length < 512 ∧
          s.results.records.length + 1 = s.results.threshold
        then raise .resultsReady (le2 (s.results.records.length + 1) ++ le2 s.results.threshold ++
          le4 s.results.lost) s else s).link := by
  cases hskip : sh.entry.skip with
  | true => simp [recordShot, hskip]
  | false =>
    rcases Nat.lt_or_ge s.results.records.length 512 with hroom | hfull
    · simp [recordShot, hskip, offerRecord_room hroom, hroom, addRecord_link]
    · simp [recordShot, hskip, offerRecord_full hfull, Nat.not_lt.mpr hfull, discardRecord]

/-! ### The regulator hand-off (R32, R42) -/

/-- The hand-off writes the regulators and nothing else. -/
theorem handOffCycle_eq (sh : Shot) (s : State) :
    handOffCycle sh s = { s with regs := (handOffCycle sh s).regs } := by
  unfold handOffCycle handOff
  split
  · rfl
  · split
    · rfl
    · simp only
      repeat' split
      all_goals rfl

/-- What a cycle shot hands to the regulator it names: a figure when it fired uncut, then a clip notice (R32). -/
def handed (sh : Shot) (readings baselines : Quad Nat) (l : Light) (r : Regulator) : Regulator :=
  let r' := if sh.fired.getLsbD l.val = true ∧ sh.cut.getLsbD l.val = false
    then takeFigure readings baselines r else r
  if sh.clipped.getLsbD l.val = true then takeClip r' else r'

theorem givesFigure_iff (sh : Shot) (l : Light) :
    givesFigure sh l = true ↔ sh.fired.getLsbD l.val = true ∧ sh.cut.getLsbD l.val = false := by
  simp [givesFigure, hasLight]

theorem handOff_named {sh : Shot} {l : Light} (h : sh.entry.regulate = some l) (s : State) :
    (handOff sh s).regs = s.regs.set l (handed sh s.sense.readings s.sense.baselines l (s.regs.get l)) := by
  have hclip : hasLight sh.clipped l = sh.clipped.getLsbD l.val := rfl
  simp only [handOff, h, handed, givesFigure_iff, hclip]
  split
  · split
    · exact Octet.ext_get fun j => by simp only [updateReg, Octet.get_set]; split <;> rfl
    · rfl
  · split
    · rfl
    · exact (Octet.set_get _ _).symm

theorem handOffCycle_get (sh : Shot) (s : State) (l : Light) :
    (handOffCycle sh s).regs.get l =
      if sh.test = false ∧ sh.entry.regulate = some l
      then handed sh s.sense.readings s.sense.baselines l (s.regs.get l) else s.regs.get l := by
  cases htest : sh.test with
  | true => simp [handOffCycle, htest]
  | false =>
    cases hreg : sh.entry.regulate with
    | none => simp [handOffCycle, htest, handOff, hreg]
    | some j =>
      simp only [handOffCycle, htest, Bool.false_eq_true, if_false, handOff_named hreg, Octet.get_set,
        Option.some.injEq, true_and]
      by_cases hl : l = j
      · subst hl
        simp
      · simp [hl, Ne.symm hl]

/-! ### The readings and the baselines (R28, R29, R31) -/

/-- The readings are latched and the baselines of a BASELINE shot written: lights and senses change, nothing else. -/
theorem takeBaselines_latch (charges : Quad Nat) (sh : Shot) (s : State) :
    takeBaselines sh (latchReadings charges s) = { s with
      lights.channels := s.lights.channels.map channelOff
      sense := { integrators := (integrated charges s.sense).integrators
                 integrating := false
                 readings := (integrated charges s.sense).integrators.map countOf
                 baselines := if sh.entry.baseline then (integrated charges s.sense).integrators.map countOf
                   else s.sense.baselines } } := by
  unfold takeBaselines
  split <;> rfl

/-! ### The shot's next phase (R31, R35) -/

/-- Flash end leaves the shot in TAIL, or with a tail of 0 in GAP with the cameras released (R31, R35). -/
def leaveFlash (sh : Shot) (s : State) : State :=
  if sh.entry.tail = 0 then tailEnd (enterPhase sh .tail sh.entry.tail s) else enterPhase sh .tail sh.entry.tail s

theorem leaveFlash_eq (sh : Shot) (s : State) :
    leaveFlash sh s = { s with
      seq.shot := some (if sh.entry.tail = 0 then { sh with phase := .gap, timeLeft := sh.entry.gap }
        else { sh with phase := .tail, timeLeft := sh.entry.tail })
      seq.cameras := if sh.entry.tail = 0 then 0#4 else s.seq.cameras } := by
  unfold leaveFlash
  split
  · rfl
  · rfl

/-- The CLIPPED flag of a cycle is set by a shot with a clipped light (R31). -/
theorem noteClipped_eq (sh : Shot) (s : State) :
    noteClipped sh s = { s with
      seq.flags.clipped := s.seq.flags.clipped || (decide (sh.clipped ≠ 0#8) && !sh.test) } := by
  by_cases h : sh.clipped ≠ 0 ∧ sh.test = false
  · have hset : (decide (sh.clipped ≠ 0#8) && !sh.test) = true := by simpa using h
    rw [noteClipped, if_pos h, hset, Bool.or_true]
  · have hset : (decide (sh.clipped ≠ 0#8) && !sh.test) = false := by simpa using h
    rw [noteClipped, if_neg h, hset, Bool.or_false]

/-! ### Flash end as a whole (R31) -/

theorem flashEnd_flash {charges : Quad Nat} {markers : LineSet} {s : State} {sh : Shot} (hsh : s.seq.shot = some sh)
    (hphase : sh.phase = .flash) : flashEnd charges markers s = finishFlash charges markers sh s := by
  simp [flashEnd, hsh, hphase]

theorem flashEnd_otherwise (charges : Quad Nat) (markers : LineSet) {s : State}
    (h : ∀ sh, s.seq.shot = some sh → sh.phase ≠ .flash) : flashEnd charges markers s = s := by
  unfold flashEnd
  split
  · next sh hsh => exact if_neg (h sh hsh)
  · rfl

theorem exec_flashEnd {s : State} (h : Resting s) (charges : Quad Nat) (markers : LineSet) :
    exec (.flashEnd charges markers) s = .next (startSend (flashEnd charges markers s)) :=
  event_resting h (flashEnd_untouched charges markers s)

theorem finishFlash_steps (charges : Quad Nat) (markers : LineSet) (sh : Shot) (s : State) :
    finishFlash charges markers sh s =
      leaveFlash sh (noteClipped sh (recordShot sh markers
        (handOffCycle sh (takeBaselines sh (latchReadings charges s))))) := rfl

/-- Flash end, block by block: lights and senses as measured, regulators as handed to, results and reports as the
record leaves them. -/
theorem finishFlash_eq (charges : Quad Nat) (markers : LineSet) (sh : Shot) (s : State) :
    let measured := takeBaselines sh (latchReadings charges s)
    let handedOn := handOffCycle sh measured
    let recorded := recordShot sh markers handedOn
    finishFlash charges markers sh s = { measured with
      regs := handedOn.regs
      seq := (leaveFlash sh (noteClipped sh recorded)).seq
      results := recorded.results
      link := recorded.link } := by
  intro measured handedOn recorded
  have hhanded : handedOn = { measured with regs := handedOn.regs } := handOffCycle_eq sh measured
  have hrecorded : recorded = { handedOn with
      seq := recorded.seq, results := recorded.results, link := recorded.link } := recordShot_eq sh markers handedOn
  calc finishFlash charges markers sh s
      = { recorded with seq := (leaveFlash sh (noteClipped sh recorded)).seq } := by
        rw [finishFlash_steps, leaveFlash_eq, noteClipped_eq]
    _ = { handedOn with
          seq := (leaveFlash sh (noteClipped sh recorded)).seq
          results := recorded.results
          link := recorded.link } := by rw [hrecorded]
    _ = _ := by rw [hhanded]

/-- An integrator's count once it is latched (R28). -/
theorem latched_le (charges : Quad Nat) (f : SenseFrontEnd) (i : Fin 4) :
    ((integrated charges f).integrators.map countOf).get i ≤ 65535 := by
  rw [Quad.get_map, integrated_get]
  exact countOf_le (Nat.min_le_left _ _)

/-- The sequencer after flash end: the phase left, and the CLIPPED and LOST flags noted (R31, R35, R42). -/
theorem leftFlash_seq (sh : Shot) (m : LineSet) (s : State) :
    (leaveFlash sh (noteClipped sh (recordShot sh m s))).seq = { s.seq with
      shot := some (if sh.entry.tail = 0 then { sh with phase := .gap, timeLeft := sh.entry.gap }
        else { sh with phase := .tail, timeLeft := sh.entry.tail })
      cameras := if sh.entry.tail = 0 then 0#4 else s.seq.cameras
      flags := { s.seq.flags with
        clipped := s.seq.flags.clipped || (decide (sh.clipped ≠ 0#8) && !sh.test)
        lost := s.seq.flags.lost ||
          (!sh.entry.skip && decide (512 ≤ s.results.records.length) && !sh.test) } } := by
  rw [leaveFlash_eq, noteClipped_eq]
  simp only [recordShot_seq]

/-- Settles O35: flash end is `finishFlash`, read block by block. -/
theorem flashEndLatches : Obligations.FlashEndLatches := by
  intro charges markers s hrest
  refine ⟨fun hno => ?_, fun sh hsh hphase => ?_⟩
  · have hsame := flashEnd_otherwise charges markers hno
    exact (event_silent hrest (flashEnd_untouched charges markers s) (by rw [hsame])).trans (by rw [hsame])
  · intro held readings baselines record full
    have ⟨hreset, _, _⟩ := hrest
    refine ⟨finishFlash charges markers sh s, by rw [exec_flashEnd hrest, flashEnd_flash hsh hphase], ?_⟩
    simp only [finishFlash_eq]
    rw [takeBaselines_latch]
    refine ⟨rfl, rfl, rfl, rfl, rfl, rfl, hreset, rfl, rfl, latched_le charges s.sense, rfl, fun l => ?_, fun l => ?_,
      ?_, ?_, ?_⟩
    · exact Octet.get_map _ _ _
    · rw [handOffCycle_get]
      rfl
    · rw [leftFlash_seq, handOffCycle_eq]
    · have hrecord : recordOf sh markers (handOffCycle sh (takeBaselines sh (latchReadings charges s))) = record := by
        rw [handOffCycle_eq, takeBaselines_latch]
        simp only [recordOf, Bool.and_comm (!sh.test)]
        rfl
      rw [takeBaselines_latch] at hrecord
      rw [recordShot_results, hrecord, handOffCycle_eq]
      simp only [full, decide_eq_true_eq]
    · rw [recordShot_link, handOffCycle_eq]
      simp only [full, decide_eq_false_iff_not, Nat.not_le]
      split
      · exact raise_link_of_link _ _ rfl
      · rfl

end Sys2Proof.ShotProofs
end

section
/-!
PROOFS. SENSE_GET (R30), and what leaves the last readings alone: every event but a flash end and a full reset.
-/

namespace Sys2Proof.ShotProofs

open Sys2Proof.Machine Sys2Proof.Safety Sys2Proof.BlocksProofs

/-- From `s` to `t` the last readings stayed as they were. -/
def SameReadings (s t : State) : Prop := t.sense.readings = s.sense.readings

namespace SameReadings

theorem refl (s : State) : SameReadings s s := rfl

theorem trans {s t u : State} (h : SameReadings s t) (g : SameReadings t u) : SameReadings s u := Eq.trans g h

theorem cond {s a b : State} {c : Prop} [Decidable c] (ha : SameReadings s a) (hb : SameReadings s b) :
    SameReadings s (if c then a else b) := by
  split <;> assumption

/-- An update that does not write the last readings. -/
theorem of_same {s t : State} (h : t.sense.readings = s.sense.readings) : SameReadings s t := h

/-- The same with such an update before it. -/
theorem after {s t u : State} (g : SameReadings t u) (h : t.sense.readings = s.sense.readings) : SameReadings s u :=
  (of_same h).trans g

/-- The same with such an update behind it. -/
theorem upd {s t u : State} (g : SameReadings s t) (h : u.sense.readings = t.sense.readings) : SameReadings s u :=
  g.trans (of_same h)

theorem raise (k : ReportKind) (p : List Byte) (s : State) : SameReadings s (raise k p s) :=
  of_same (by rw [raise_sense])

theorem changeRun (r : RunState) (c : RunCause) (s : State) : SameReadings s (changeRun r c s) :=
  of_same (by rw [changeRun_sense])

/-! ### The run -/

theorem startEvent (s : State) : SameReadings s (startEvent s) := (changeRun _ _ (openRun s)).after rfl

theorem gateCheck (s : State) : SameReadings s (gateCheck s) := cond (startEvent s) (refl s)

theorem armRun (s : State) : SameReadings s (armRun s) := (changeRun _ _ s).trans (gateCheck _)

theorem runEnd (s : State) : SameReadings s (runEnd s) := by
  have hclosed : SameReadings s (Machine.changeRun (runDestination s.run.stopKind s.run.setup.repeats) .runEnd
      (closeRun s)) := (changeRun _ _ (closeRun s)).after rfl
  exact cond (hclosed.trans (gateCheck _)) hclosed

theorem runEndCheck (s : State) : SameReadings s (runEndCheck s) := cond (runEnd s) (refl s)

theorem goIdle (c : RunCause) (s : State) : SameReadings s (goIdle c s) := cond (refl s) (changeRun _ _ s)

/-! ### Shots and cycles up to flash end, and after it -/

theorem applyBank (b : Fin 4) (s : State) : SameReadings s (applyBank b s).state :=
  of_same (by rw [(applyBank_only b s).sense])

theorem applyDueBanks (s : State) : SameReadings s (applyDueBanks s) :=
  applyDueBanks_keep (P := SameReadings s) (fun b t h => h.trans (applyBank b t)) (fun _ _ h => h) (refl s)

/-- A flash start clears the integrators and leaves the last readings (R28, R30). -/
theorem flashStart (s : State) : SameReadings s (flashStart s) := by
  unfold Machine.flashStart
  split
  · exact cond rfl (refl s)
  · exact refl s

theorem startShot (i : Nat) (test : Bool) (s : State) : SameReadings s (startShot i test s) := by
  unfold Machine.startShot
  split
  · exact refl s
  · next e _ => exact cond ((flashStart (enterLead i e test s)).after rfl) (of_same rfl)

theorem cycleBegin (s : State) : SameReadings s (cycleBegin s) := by
  unfold Machine.cycleBegin
  have hnumber : SameReadings s { s with seq.cycleNumber := wrap32 s.seq.cycleNumber, seq.position := 0 } :=
    of_same rfl
  refine .trans ?_ (startShot _ _ _)
  exact (hnumber.trans (applyDueBanks _)).upd rfl

theorem openCycle (s : State) : SameReadings s (openCycle s) :=
  cond (cond (of_same rfl) ((cycleBegin _).after rfl)) ((cycleBegin (openRecord s)).after rfl)

theorem closeCycle (s : State) : SameReadings s (closeCycle s) := by
  rw [closeCycle_eq]
  have hclosed : SameReadings s (cycleClosed s) := (raise _ _ _).after rfl
  exact hclosed.trans (runEndCheck _)

theorem nextShot (s : State) : SameReadings s (nextShot s) := (startShot _ _ _).after rfl

theorem tailEnd (s : State) : SameReadings s (tailEnd s) := by
  unfold Machine.tailEnd
  split
  · exact cond rfl (refl s)
  · exact refl s

theorem gapEnd (s : State) : SameReadings s (gapEnd s) := by
  unfold Machine.gapEnd
  split
  · refine cond (cond rfl ?_) (refl s)
    rw [finishCycleShot_eq]
    exact cond ((changeRun _ _ _).after rfl) (cond ((closeCycle _).after rfl) ((nextShot _).after rfl))
  · exact refl s

theorem resume (s : State) : SameReadings s (resume s) :=
  (changeRun _ _ s).trans (cond (closeCycle _) (nextShot _))

theorem abortSequencer (s : State) : SameReadings s (abortSequencer s) := by
  have hdiscard (n k : Nat) : SameReadings s (discardCycle n k (stopSequencer s)) := (raise _ _ _).after rfl
  unfold Machine.abortSequencer
  split
  · exact hdiscard _ _
  · exact hdiscard _ _
  · exact hdiscard _ _
  · exact refl s
  · exact refl s

/-! ### Stops, cycle sources and triggers -/

theorem stopEvent (k : StopKind) (s : State) : SameReadings s (stopEvent k s) := by
  unfold Machine.stopEvent
  split
  · exact refl s
  · exact refl s
  · exact (runEnd _).after rfl
  · exact ((changeRun _ _ _).trans (runEndCheck _)).after rfl
  · exact refl s
  · exact (((closeCycle _).trans (changeRun _ _ _)).trans (runEndCheck _)).after rfl

theorem acceptCycle (s : State) : SameReadings s (acceptCycle s) := (openCycle _).after rfl

theorem countDown (s : State) : SameReadings s (countDown s) :=
  cond ((changeRun _ _ _).after rfl) (of_same rfl)

theorem cycleSource (s : State) : SameReadings s (cycleSource s).state := by
  unfold Machine.cycleSource
  split
  · exact refl s
  · exact refl s
  · exact countDown s
  · split
    · exact cond ((acceptCycle s).trans (stopEvent _ _)) (acceptCycle s)
    · exact of_same rfl
  · split
    · exact refl s
    · split
      · exact (acceptCycle _).after rfl
      · exact of_same rfl
  · exact of_same rfl

theorem pacerExpiry (s : State) : SameReadings s (pacerExpiry s) := by
  unfold Machine.pacerExpiry
  split
  · exact (cycleSource _).after rfl
  · exact refl s

theorem encoderEdge (s : State) : SameReadings s (encoderEdge s) :=
  cond (cond ((cycleSource _).after rfl) (of_same rfl)) (refl s)

theorem trigOperate (s : State) : SameReadings s (trigOperate s) := by
  have hcycle : SameReadings s (trigCycle s) := cond (cycleSource s) (refl s)
  have hstop : SameReadings s (trigStop (trigCycle s)) := hcycle.trans (cond (stopEvent _ _) (refl _))
  unfold Machine.trigOperate
  split
  · exact refl s
  · unfold trigArmed
    split
    · exact refl s
    · exact startEvent s
    · exact startEvent s
  · exact hstop
  · exact hstop
  · exact hcycle
  · exact cond (resume s) hstop

theorem changeSupply (m : SupplyMode) (c : SupplyCause) (s : State) : SameReadings s (changeSupply m c s) :=
  (raise _ _ _).after rfl

theorem trigActiveEdge (s : State) : SameReadings s (trigActiveEdge s) := by
  unfold Machine.trigActiveEdge
  simp only
  split
  · exact cond ((changeSupply _ _ _).after rfl) (of_same rfl)
  · exact of_same rfl
  · exact (trigOperate _).after rfl

theorem trigInactiveEdge (s : State) : SameReadings s (trigInactiveEdge s) := by
  refine cond ?_ (of_same rfl)
  unfold gateStop
  split
  · exact (stopEvent _ _).after rfl
  · exact (stopEvent _ _).after rfl
  all_goals exact of_same rfl

theorem settleExpiry (s : State) : SameReadings s (settleExpiry s) := by
  unfold Machine.settleExpiry
  split
  · exact (changeSupply _ _ _).after rfl
  · exact refl s

/-! ### The line lock and the faults -/

theorem syncEdge (d : Polarity) (s : State) : SameReadings s (syncEdge d s) := by
  have hwatch : SameReadings s (restartWatch s) := cond (of_same rfl) ((raise _ _ _).after rfl)
  refine cond (hwatch.trans ?_) (refl s)
  unfold releaseByEdge
  split
  · exact cond (of_same rfl) ((cycleBegin _).after rfl)
  · exact refl _
  · exact refl _

theorem releaseUnlocked (s : State) : SameReadings s (releaseUnlocked s) := by
  unfold Machine.releaseUnlocked
  split
  · exact refl s
  · exact (cycleBegin _).after rfl
  · exact (cycleBegin _).after rfl

theorem watchExpiry (s : State) : SameReadings s (watchExpiry s) := by
  unfold Machine.watchExpiry
  split
  · have hlost : SameReadings s (changeSync false { s with lock.watch := none }) := (raise _ _ _).after rfl
    exact hlost.trans (releaseUnlocked _)
  · exact refl s

theorem phaseDelayEnd (s : State) : SameReadings s (phaseDelayEnd s) := by
  unfold Machine.phaseDelayEnd
  split
  · exact (cycleBegin _).after rfl
  · exact refl s
  · exact refl s

theorem latchFault (l : Light) (s : State) : SameReadings s (latchFault l s) := by
  have hcut : SameReadings s (cutIfOn l (setFaulted l s)) := cond (of_same rfl) (of_same rfl)
  have hraised := hcut.trans (raise .fault (faultPayload l (s.lights.channels.get l).on (cutIfOn l (setFaulted l s))) _)
  exact cond (hraised.trans (stopEvent _ _)) hraised

theorem faultArrival (l : Light) (s : State) : SameReadings s (faultArrival l s) :=
  cond (of_same rfl) ((latchFault l _).after rfl)

theorem dutyTimerExpiry (s : State) : SameReadings s (dutyTimerExpiry s) := by
  unfold Machine.dutyTimerExpiry
  split <;> exact refl s

/-! ### Commands -/

theorem startByState {s t : State} (h : startByState s = some t) : SameReadings s t := by
  unfold Machine.startByState at h
  split at h
  · split at h <;> cases h
    · exact startEvent s
    · exact armRun s
    · exact armRun s
  · split at h <;> cases h
    · exact startEvent s
    · exact refl _
    · exact refl _
  · split at h <;> cases h
    exact resume s
  all_goals cases h

theorem haltRun (s : State) : SameReadings s (haltRun s) := by
  unfold Machine.haltRun
  split
  · exact refl s
  · exact changeRun _ _ s
  · exact stopEvent _ s
  · exact stopEvent _ s
  · exact stopEvent _ s
  · exact refl s

theorem abortRun (s : State) : SameReadings s (abortRun s) :=
  (abortSequencer s).trans ((goIdle _ _).after rfl)

theorem runReset (s : State) : SameReadings s (runReset s) := by
  have hidle : SameReadings s (Machine.goIdle .reset (stopRun (stopSequencer s))) :=
    (goIdle _ _).after rfl
  exact hidle.upd rfl

theorem of_onlyStage {s t : State} (h : OnlyStage s t) : SameReadings s t := by
  obtain ⟨u, rfl⟩ := h
  exact refl s

theorem of_onlyLink {s t : State} (h : OnlyLink s t) : SameReadings s t := by
  obtain ⟨k, rfl⟩ := h
  exact refl s

theorem putShot {i : Nat} {e : ShotEntry} {s t : State} (h : putShot i e s = some t) : SameReadings s t := by
  obtain ⟨u, rfl⟩ := putShot_onlyTable h
  exact refl s

theorem putSeqStart {i : Nat} {s t : State} (h : putSeqStart i s = some t) : SameReadings s t := by
  obtain ⟨-, rfl⟩ := putSeqStart_cases h
  exact refl s

theorem putRegForce {l : Light} {d c : Nat} {s t : State} (h : putRegForce l d c s = some t) : SameReadings s t := by
  obtain ⟨-, rfl⟩ := putRegForce_cases h
  exact refl s

theorem takeReportMask (p : List Byte) (s : State) : SameReadings s (takeReportMask p s).state := by
  unfold Machine.takeReportMask
  split <;> exact refl s

theorem takeReset (p : List Byte) (s : State) : SameReadings s (takeReset p s).state := by
  unfold Machine.takeReset
  split
  · exact refl s
  · exact runReset s
  · exact refl s

theorem takeShotPut (p : List Byte) (s : State) : SameReadings s (takeShotPut p s).state := by
  unfold Machine.takeShotPut
  split
  · exact refl s
  · split
    · split
      · exact refl s
      · next h => exact putShot h
    · exact refl s

theorem takeSeqSelect (p : List Byte) (s : State) : SameReadings s (takeSeqSelect p s).state := by
  unfold Machine.takeSeqSelect
  split
  · exact refl s
  · split
    · split
      · exact refl s
      · next h => exact putSeqStart h
    · exact refl s

theorem takeTableClear (p : List Byte) (s : State) : SameReadings s (takeTableClear p s).state := by
  unfold Machine.takeTableClear
  split
  · exact refl s
  · split <;> exact refl s

theorem takeFire (p : List Byte) (s : State) : SameReadings s (takeFire p s).state := by
  unfold Machine.takeFire
  split
  · exact refl s
  · split
    · exact refl s
    · split
      · split
        · exact (startShot _ _ _).after rfl
        · exact refl s
      · exact refl s

theorem takeSenseSet (p : List Byte) (s : State) : SameReadings s (takeSenseSet p s).state := by
  unfold Machine.takeSenseSet
  split <;> exact refl s

theorem takeRunSetup (p : List Byte) (s : State) : SameReadings s (takeRunSetup p s).state := by
  unfold Machine.takeRunSetup
  split
  · exact refl s
  · split <;> exact refl s

theorem takeStart (p : List Byte) (s : State) : SameReadings s (takeStart p s).state := by
  unfold Machine.takeStart
  split
  · exact refl s
  · split
    · exact refl s
    · split
      · exact refl s
      · split
        · exact refl s
        · split
          · exact refl s
          · next h => exact startByState h

theorem takeCycle (p : List Byte) (s : State) : SameReadings s (takeCycle p s).state := by
  unfold Machine.takeCycle
  split
  · exact refl s
  · split
    · exact cycleSource s
    · exact refl s

theorem takeHalt (p : List Byte) (s : State) : SameReadings s (takeHalt p s).state := by
  unfold Machine.takeHalt
  split
  · exact refl s
  · exact haltRun s

theorem takeAbort (p : List Byte) (s : State) : SameReadings s (takeAbort p s).state := by
  unfold Machine.takeAbort
  split
  · exact refl s
  · split
    · exact abortRun s
    · exact refl s

theorem takeLockSetup (p : List Byte) (s : State) : SameReadings s (takeLockSetup p s).state := by
  unfold Machine.takeLockSetup
  split
  · exact refl s
  · split
    · exact refl s
    · exact cond rfl rfl

theorem takeRegMode (p : List Byte) (s : State) : SameReadings s (takeRegMode p s).state := by
  unfold Machine.takeRegMode
  split
  · exact refl s
  · exact of_same (congrArg _ (putRegMode_only _ _ s).sense)

theorem takeRegForce (p : List Byte) (s : State) : SameReadings s (takeRegForce p s).state := by
  unfold Machine.takeRegForce
  split
  · exact refl s
  · split
    · exact refl s
    · next h => exact putRegForce h

theorem takeRegBands (p : List Byte) (s : State) : SameReadings s (takeRegBands p s).state := by
  unfold Machine.takeRegBands
  split <;> exact refl s

theorem takeRegLimits (p : List Byte) (s : State) : SameReadings s (takeRegLimits p s).state := by
  unfold Machine.takeRegLimits
  split <;> exact refl s

theorem takeLightDuty (p : List Byte) (s : State) : SameReadings s (takeLightDuty p s).state := by
  unfold Machine.takeLightDuty
  split <;> exact refl s

theorem takeFaultClear (p : List Byte) (s : State) : SameReadings s (takeFaultClear p s).state := by
  unfold Machine.takeFaultClear
  split
  · exact refl s
  · split
    · exact refl s
    · exact cond rfl rfl

theorem takeStageLaunch (p : List Byte) (s : State) : SameReadings s (takeStageLaunch p s).state := by
  unfold Machine.takeStageLaunch
  split
  · exact refl s
  · simp only
    split
    · split
      · exact applyBank _ s
      · exact refl s
    · exact refl s

theorem takeResultRead (p : List Byte) (s : State) : SameReadings s (takeResultRead p s).state := by
  unfold Machine.takeResultRead
  split <;> exact refl s

theorem takeResultFlush (p : List Byte) (s : State) : SameReadings s (takeResultFlush p s).state := by
  unfold Machine.takeResultFlush
  split <;> exact refl s

theorem takeResultThreshold (p : List Byte) (s : State) : SameReadings s (takeResultThreshold p s).state := by
  unfold Machine.takeResultThreshold
  split <;> exact refl s

theorem takeStandby (p : List Byte) (s : State) : SameReadings s (takeStandby p s).state := by
  unfold Machine.takeStandby
  split
  · exact refl s
  · split
    · split
      · exact changeSupply _ _ _
      · exact refl s
    · exact changeSupply _ _ _
    · exact refl s

theorem takeWake (p : List Byte) (s : State) : SameReadings s (takeWake p s).state := by
  unfold Machine.takeWake
  split
  · exact refl s
  · split
    · exact changeSupply _ _ _
    · exact refl s
    · exact refl s

theorem takeSupplySetup (p : List Byte) (s : State) : SameReadings s (takeSupplySetup p s).state := by
  unfold Machine.takeSupplySetup
  split <;> exact refl s

/-- No command writes the last readings. -/
theorem executeDirect (c : Command) (p : List Byte) (s : State) : SameReadings s (executeDirect c p s).state := by
  by_cases hreading : isReading c = true
  · rw [reading_state hreading]
    exact refl s
  · cases c
    case reportMask => exact takeReportMask p s
    case reset => exact takeReset p s
    case shotPut => exact takeShotPut p s
    case seqSelect => exact takeSeqSelect p s
    case tableClear => exact takeTableClear p s
    case fire => exact takeFire p s
    case senseSet => exact takeSenseSet p s
    case runSetup => exact takeRunSetup p s
    case start => exact takeStart p s
    case cycle => exact takeCycle p s
    case halt => exact takeHalt p s
    case abort => exact takeAbort p s
    case lockSetup => exact takeLockSetup p s
    case regMode => exact takeRegMode p s
    case regForce => exact takeRegForce p s
    case regBands => exact takeRegBands p s
    case regLimits => exact takeRegLimits p s
    case lightDuty => exact takeLightDuty p s
    case faultClear => exact takeFaultClear p s
    case stageOpen => exact of_onlyStage (takeStageOpen_onlyStage p s)
    case stageClose => exact of_onlyStage (takeStageClose_onlyStage p s)
    case stageLaunch => exact takeStageLaunch p s
    case stageDrop => exact of_onlyStage (takeStageDrop_onlyStage p s)
    case stageLayout => exact of_onlyStage (takeStageLayout_onlyStage p s)
    case stageAlternate => exact of_onlyStage (takeStageAlternate_onlyStage p s)
    case resultRead => exact takeResultRead p s
    case resultFlush => exact takeResultFlush p s
    case resultThreshold => exact takeResultThreshold p s
    case standby => exact takeStandby p s
    case wake => exact takeWake p s
    case supplySetup => exact takeSupplySetup p s
    all_goals exact absurd rfl hreading

theorem execute (f : Frame) (s : State) : SameReadings s (execute f s).state := by
  unfold Machine.execute
  split
  · unfold executeCommand
    split
    · split
      · exact of_onlyStage (capture_onlyStage _ _ _ s)
      · exact executeDirect _ _ s
    · exact executeDirect _ _ s
  · exact refl s

theorem takeOne (s : State) : SameReadings s (takeOne s) := by
  unfold Machine.takeOne
  split
  · exact refl s
  · next f rest _ => exact ((execute f { s with link.commands := rest }).after rfl).upd rfl

theorem settle (s : State) : SameReadings s (settle s) :=
  settle_keeps (P := SameReadings s) (fun t h => h.trans (of_onlyLink (.startSend t)))
    (fun t h => h.trans (takeOne t)) (refl s)

theorem receiveFrame (bytes : List Byte) (s : State) : SameReadings s (receiveFrame bytes s) := by
  unfold Machine.receiveFrame
  induction bytes generalizing s with
  | nil => exact refl s
  | cons b bytes ih => exact ((of_onlyLink (.receiveByte b s)).trans (settle _)).trans (ih _)

/-! ### Events -/

theorem event {f : State → State} {s t : State} (hf : SameReadings s (f s)) (h : event f s = .next t) :
    SameReadings s t := by
  cases h
  exact cond (refl s) (hf.trans (settle _))

theorem pinEvent {level f : State → State} {s t : State} (hlevel : SameReadings s (level s))
    (hf : SameReadings s (f s)) (h : pinEvent level f s = .next t) : SameReadings s t := by
  cases h
  exact cond hlevel (hf.trans (settle _))

end SameReadings

/-- While the executor is idle no full reset is due (R171). -/
theorem resetDue_idle {s : State} (h : s.link.executor = .idle) : resetDue s = false := by
  simp [resetDue, h]

/-- Out of reset and with the executor idle, only a flash end and a full reset write the last readings (R28, R30). -/
theorem exec_sameReadings {i : Instr} {s t : State} (hflash : ∀ charges markers, i ≠ .flashEnd charges markers)
    (hout : s.resetCause = none) (hstays : t.resetCause = none) (hidle : s.link.executor = .idle)
    (h : exec i s = .next t) : SameReadings s t := by
  have hdue := resetDue_idle hidle
  cases i
  case frameReceived bytes => exact .event (.receiveFrame bytes s) h
  case byteReceived b => exact .event (.of_onlyLink (.receiveByte b s)) h
  case framingError held => exact .event (.of_onlyLink (.framingErrorSeen held s)) h
  case gapTimerExpiry => exact .event (.of_onlyLink (.gapTimerExpires s)) h
  case lineReturnToIdle => exact .event (f := lineIdle) (.of_same rfl) h
  case frameSent =>
    refine .event (f := frameSentEvent) ?_ h
    unfold frameSentEvent
    rw [hdue]
    split <;> exact .refl s
  case fullReset =>
    refine .event (f := fullResetEvent) ?_ h
    rw [fullResetEvent, hdue]
    exact .refl s
  case powerOn => cases h; cases hstays
  case rstnLow => cases h; cases hstays
  case resetCompletion =>
    cases h
    rw [completeReset, hout]
    exact .refl s
  case pacerExpiry => exact .event (.pacerExpiry s) h
  case encEdge => exact .event (.encoderEdge s) h
  case encoderCounterZero => exact .event (f := encoderZero) (.cond (.encoderEdge s) (.refl s)) h
  case trigActiveEdge => exact .pinEvent (.of_same rfl) (.trigActiveEdge s) h
  case trigInactiveEdge => exact .pinEvent (.of_same rfl) (.trigInactiveEdge s) h
  case syncEdge d => exact .event (.syncEdge d s) h
  case watchExpiry => exact .event (.watchExpiry s) h
  case phaseDelayEnd => exact .event (.phaseDelayEnd s) h
  case flashStart => exact .event (.flashStart s) h
  case firingEnd l => exact .event (f := firingEnd l) (.of_same rfl) h
  case flashEnd charges markers => exact absurd rfl (hflash charges markers)
  case tailEnd => exact .event (.tailEnd s) h
  case gapEnd => exact .event (.gapEnd s) h
  case dutyTimerExpiry => exact .event (.dutyTimerExpiry s) h
  case faultArrival l => exact .pinEvent (.of_same rfl) (.faultArrival l s) h
  case settleExpiry => exact .event (.settleExpiry s) h
  case faultLineReturnToInactive l => exact .pinEvent (.of_same rfl) (.of_same rfl) h
  all_goals exact .event (.of_onlyLink (.arrive _ s)) h

/-! ### SENSE_GET (R30) -/

theorem execute_senseGet (tag : Byte) (p : List Byte) (s : State) :
    execute ⟨0x1A#8, tag, p⟩ s = takeSenseGet p s :=
  executeCommand_unstageable (c := .senseGet) rfl

/-- Settles O37: SENSE_GET by its payload, and the last readings by `exec_sameReadings`. -/
theorem senseGetAnswers : Obligations.SenseGetAnswers := by
  refine ⟨fun tag s => ⟨execute_senseGet tag [] s, fun hready => ?_⟩, fun tag p s hp => ?_,
    fun i s t hflash hout hstays hidle h => exec_sameReadings hflash hout hstays hidle h⟩
  · show hostCommand .senseGet tag [] s = _
    rw [hostCommand_ready hready (by simp), executeCommand_unstageable rfl]
    rfl
  · rw [execute_senseGet]
    simp [takeSenseGet, parseNothing, sized, hp, refuse, statusCode]

end Sys2Proof.ShotProofs
end

section
/-!
PROOFS. How a statement about the Run Controller reaches its operation: a command of chapter 3 at a Ready part, an
event at a Resting part, the level that a TRIG edge leaves, and the acceptance of a cycle request
(03_run_control_and_triggers.md sections 3.3, 3.4 and 3.6).
-/

namespace Sys2Proof.RunControlProofs

open Sys2Proof.Machine Sys2Proof.Safety Sys2Proof.ShotProofs Sys2Proof.RunProofs

/-! ### Commands and pin events -/

/-- A command that is not stageable, taken by a Ready part (R161). -/
theorem hostCommand_unstageable {c : Command} {tag : Byte} {p : List Byte} {s : State} (h : Ready s)
    (hp : p.length ≤ 250) (hc : isStageable c = false) :
    hostCommand c tag p s =
      .next (replied (replyCode (commandCode c)) tag (executeDirect c p s).reply (executeDirect c p s).state) := by
  rw [hostCommand_ready h hp, executeCommand_unstageable hc]

/-- TRIG at its active level, which is high exactly under polarity RISING (R51). -/
def trigAtActive (s : State) : State := { s with pins.trigHigh := decide (s.run.setup.polarity = .rising) }

/-- TRIG at its inactive level (R51). -/
def trigAtInactive (s : State) : State := { s with pins.trigHigh := !decide (s.run.setup.polarity = .rising) }

theorem setTrig_true (s : State) : setTrig true s = trigAtActive s := by
  cases h : s.run.setup.polarity <;> simp [setTrig, trigAtActive, h]

theorem setTrig_false (s : State) : setTrig false s = trigAtInactive s := by
  cases h : s.run.setup.polarity <;> simp [setTrig, trigAtInactive, h]

theorem exec_pacerExpiry {s : State} (h : Resting s) : exec .pacerExpiry s = .next (startSend (pacerExpiry s)) :=
  event_resting h (pacerExpiry_untouched s)

theorem exec_encEdge {s : State} (h : Resting s) : exec .encEdge s = .next (startSend (encoderEdge s)) :=
  event_resting h (encoderEdge_untouched s)

theorem exec_encoderCounterZero {s : State} (h : Resting s) :
    exec .encoderCounterZero s = .next (startSend (encoderZero s)) :=
  event_resting h (encoderZero_untouched s)

theorem exec_trigActiveEdge {s : State} (h : Resting s) :
    exec .trigActiveEdge s = .next (startSend (trigActiveEdge s)) :=
  pinEvent_resting h (trigActiveEdge_untouched s)

theorem exec_trigInactiveEdge {s : State} (h : Resting s) :
    exec .trigInactiveEdge s = .next (startSend (trigInactiveEdge s)) :=
  pinEvent_resting h (trigInactiveEdge_untouched s)

/-- A settled transmitter has nothing to begin after an effect that leaves the Link Port as it was (R164). -/
theorem startSend_silent {s t : State} (h : Resting s) (hlink : t.link = s.link) : startSend t = t := by
  have ⟨_, hidle, _⟩ := h
  exact startSend_settled (by rw [hlink]; exact hidle)

theorem cycle_ready {tag : Byte} {s : State} (h : Ready s) :
    exec (.cycle tag []) s = .next (replied 0xA2#8 tag (takeCycle [] s).reply (takeCycle [] s).state) :=
  hostCommand_unstageable h (by simp) rfl

/-! ### Opening a cycle (R22, R23, R75) -/

/-- A cycle's record opened, marked UNLOCKED or not (R22, R75). -/
def recordOpened (unlocked : Bool) (s : State) : State :=
  { s with seq.shotsRun := 0, seq.missedDuring := 0, seq.flags := { CycleFlags.clear with unlocked := unlocked } }

/-- A cycle request carried out: it begins at once with the lock off, is held with sync, and begins UNLOCKED without
sync (R22, R75). -/
def opened (s : State) : State :=
  if s.lock.setup.enable = false then cycleBegin (recordOpened false s)
  else if s.lock.syncOk = true then { recordOpened false s with seq.state := .waitSync, lock.hold := .edge }
  else cycleBegin (recordOpened true s)

theorem openCycle_eq (s : State) : openCycle s = opened s := by
  have hopen : openCycle s =
      if s.lock.setup.enable then
        if s.lock.syncOk then { recordOpened false s with seq.state := .waitSync, lock.hold := .edge }
        else cycleBegin (recordOpened true s)
      else cycleBegin (recordOpened false s) := rfl
  rw [hopen, opened]
  cases s.lock.setup.enable <;> rfl

@[simp] theorem opened_run (s : State) : (opened s).run = s.run := by
  unfold opened
  split
  · exact cycleBegin_run _
  · split
    · rfl
    · exact cycleBegin_run _

/-- Flash start writes of the sequencer only the shot in flight (R25). -/
theorem flashStart_seq (s : State) : (flashStart s).seq = { s.seq with shot := (flashStart s).seq.shot } := by
  unfold flashStart
  split
  · split <;> rfl
  · rfl

/-- Shot start leaves the sequencer state and the cycle's record as they are (R24). -/
theorem startShot_record (i : Nat) (test : Bool) (s : State) :
    (startShot i test s).seq.state = s.seq.state ∧ (startShot i test s).seq.missedDuring = s.seq.missedDuring := by
  cases he : s.table.entries[i]? with
  | none => simp [startShot, he]
  | some e =>
    rw [startShot_defined he, leadPassed]
    split
    · rw [flashStart_seq]
      exact ⟨rfl, rfl⟩
    · exact ⟨rfl, rfl⟩

theorem firstShot_record (s : State) :
    (firstShot s).seq.state = .shooting ∧ (firstShot s).seq.missedDuring = s.seq.missedDuring := by
  unfold firstShot
  exact startShot_record _ _ _

/-- A cycle begin shoots, and leaves the missed-during count as it is (R23). -/
theorem cycleBegin_record (s : State) :
    (cycleBegin s).seq.state = .shooting ∧ (cycleBegin s).seq.missedDuring = s.seq.missedDuring := by
  obtain ⟨hstate, hmissed⟩ := firstShot_record (applyDueBanks (numbered s))
  rw [cycleBegin_eq]
  refine ⟨hstate, hmissed.trans ?_⟩
  rw [applyDueBanks_seq]
  rfl

/-- An opened cycle keeps the sequencer busy, with no event missed during it yet (R22). -/
theorem opened_record (s : State) : (opened s).seq.state ≠ .quiet ∧ (opened s).seq.missedDuring = 0 := by
  unfold opened
  split
  · obtain ⟨hstate, hmissed⟩ := cycleBegin_record (recordOpened false s)
    exact ⟨by simp [hstate], hmissed⟩
  · split
    · exact ⟨by simp, rfl⟩
    · obtain ⟨hstate, hmissed⟩ := cycleBegin_record (recordOpened true s)
      exact ⟨by simp [hstate], hmissed⟩

/-- With no bank PENDING and no alternation, a cycle begin applies nothing (R138). -/
theorem applyDueBanks_nothing {s : State} (h : NothingDue s) : applyDueBanks s = s := by
  obtain ⟨halternation, hpending⟩ := h
  simp [applyDueBanks, alternationStep, halternation, applyPending, hpending]

/-- With no bank due, the first shot of a cycle is the entry at `seq_start` (R23, R24). -/
theorem cycleBegin_nothingDue {e : ShotEntry} {s : State} (unlocked : Bool) (h : NothingDue s)
    (he : s.table.entries[s.table.seqStart]? = some e) :
    cycleBegin (recordOpened unlocked s) = leadPassed e (cycleBegun e unlocked s) := by
  have hdue : NothingDue (numbered (recordOpened unlocked s)) := h
  rw [cycleBegin_eq, applyDueBanks_nothing hdue]
  exact startShot_defined (s := { numbered (recordOpened unlocked s) with
    seq.cursor := s.table.seqStart, seq.state := .shooting }) he

/-! ### Accepted cycle-source events (R58, R60, R64) -/

/-- The counts of an accepted event (R58, R64). -/
def requested (s : State) : State :=
  { s with
    run.cycleCount := wrap32 s.run.cycleCount
    run.afterLeft := if s.run.state = .finishing then s.run.afterLeft - 1 else s.run.afterLeft }

/-- An event that is accepted, with the COUNT stop of the N-th in RUNNING after it (R58, R60, R64). -/
def accepted (s : State) : State :=
  if s.run.state = .running ∧ s.run.setup.stopSource = .count ∧ wrap32 s.run.cycleCount = s.run.setup.stopCount then
    changeRun .finishing .stop { opened (requested s) with
      run.stopKind := .count, run.afterLeft := s.run.setup.afterCount }
  else opened (requested s)

theorem acceptCycle_running {s : State} (h : s.run.state = .running) : acceptCycle s = opened (requested s) := by
  simp [acceptCycle, openCycle_eq, requested, h]

/-- A stop event that finds a cycle in progress moves a RUNNING run to FINISHING (R63). -/
theorem stopEvent_running_busy {k : StopKind} {s : State} (hrun : s.run.state = .running)
    (hbusy : s.seq.state ≠ .quiet) : stopEvent k s = changeRun .finishing .stop (noteStop k s) := by
  simp only [stopEvent, hrun]
  exact runEndCheck_of_busy (by simpa using hbusy)

/-- The COUNT stop finds the cycle in progress that its own event opened (R60; log entry 14). -/
theorem acceptRunning_eq {s : State} (h : s.run.state = .running) : acceptRunning s = accepted s := by
  have hstop : stopEvent .count (opened (requested s)) =
      changeRun .finishing .stop (noteStop .count (opened (requested s))) :=
    stopEvent_running_busy (by simpa [requested] using h) (opened_record _).1
  simp only [acceptRunning, acceptCycle_running h, hstop, noteStop, afterLeftOf, accepted, opened_run, h, true_and]
  rfl

theorem acceptFinishing_eq {s : State} (h : s.run.state = .finishing) : acceptFinishing s = accepted s := by
  simp [acceptFinishing, acceptCycle, openCycle_eq, accepted, requested, h]

/-- The run takes cycles: RUNNING, or FINISHING with cycles left to accept (R58). -/
abbrev TakesCycles (s : State) : Prop := s.run.state = .running ∨ (s.run.state = .finishing ∧ 0 < s.run.afterLeft)

/-- A cycle-source event that finds the sequencer QUIET is accepted by a run that takes cycles (R58). -/
theorem cycleSource_accepted {s : State} (h : TakesCycles s) (hquiet : s.seq.state = .quiet) :
    cycleSource s = ⟨accepted s, .accepted⟩ := by
  rcases h with hrun | ⟨hrun, hleft⟩
  · simp [cycleSource, hrun, hquiet, acceptRunning_eq hrun]
  · simp [cycleSource, hrun, hquiet, acceptFinishing_eq hrun, hleft.ne']

/-- What an accepted event leaves in the Run Controller (R58, R60, R64). -/
theorem accepted_run (s : State) :
    (accepted s).run = if s.run.state = .running ∧ s.run.setup.stopSource = .count ∧
        wrap32 s.run.cycleCount = s.run.setup.stopCount then
      { (requested s).run with state := .finishing, stopKind := .count, afterLeft := s.run.setup.afterCount }
    else (requested s).run := by
  unfold accepted
  split <;> simp

theorem accepted_missedDuring (s : State) : (accepted s).seq.missedDuring = 0 := by
  unfold accepted
  split <;> simp [opened_record]

theorem accepted_cycleCount (s : State) : (accepted s).run.cycleCount = wrap32 s.run.cycleCount := by
  rw [accepted_run]
  split <;> rfl

theorem accepted_missed (s : State) : (accepted s).run.missed = s.run.missed := by
  rw [accepted_run]
  split <;> rfl

/-- An acceptance in FINISHING takes one of the cycles left and raises no stop (R60, R64). -/
theorem accepted_finishing {s : State} (h : s.run.state = .finishing) :
    (accepted s).run.afterLeft = s.run.afterLeft - 1 ∧ (accepted s).run.state = .finishing := by
  rw [accepted_run]
  simp [requested, h]

/-! ### The four cycle sources (R49, R50, R51, R61) -/

/-- The pacer restarted at its expiry (R49). -/
def pacerRestarted (s : State) : State := { s with run.pacer := some s.run.setup.pacerPeriod }

/-- The encoder counter reloaded to the span (R50). -/
def encoderReloaded (s : State) : State := { s with run.encoder := s.run.setup.encoderSpan }

theorem pacerExpiry_running {s : State} (h : s.run.pacer ≠ none) :
    pacerExpiry s = (cycleSource (pacerRestarted s)).state := by
  unfold pacerExpiry
  split
  · rfl
  · next hnone => exact absurd hnone h

theorem encoderCounts_iff (s : State) :
    encoderCounts s = true ↔ s.run.setup.cycleSource = .encoder ∧ s.supply.mode = .operate := by
  simp [encoderCounts]

/-- The edge that brings the encoder counter to 0 reloads it and gives a cycle-source event (R50). -/
theorem encoderEdge_last {s : State} (hcounts : encoderCounts s = true) (h : s.run.encoder = 1) :
    encoderEdge s = (cycleSource (encoderReloaded s)).state := by
  simp [encoderEdge, encoderReloaded, hcounts, h]

/-- Any earlier edge lowers the encoder counter and does nothing else (R50). -/
theorem encoderEdge_counts {s : State} (hcounts : encoderCounts s = true) (h : 1 < s.run.encoder) :
    encoderEdge s = { s with run.encoder := s.run.encoder - 1 } := by
  simp [encoderEdge, hcounts, h]

theorem encoderZero_last {s : State} (h : s.run.encoder = 1) : encoderZero s = encoderEdge s := if_pos h

/-- The active edge of TRIG in OPERATE acts by the run state at the level it leaves (R51). -/
theorem trigActiveEdge_operate {s : State} (h : s.supply.mode = .operate) :
    trigActiveEdge s = trigOperate (trigAtActive s) := by
  simp only [trigActiveEdge, setTrig_true]
  rw [show (trigAtActive s).supply.mode = .operate from h]

/-- CYCLE is a cycle-source event under cycle source COMMAND, and answers its outcome in IDLE and ARMED (R61). -/
theorem takeCycle_acts {s : State}
    (h : s.run.setup.cycleSource = .command ∨ s.run.state = .idle ∨ s.run.state = .armed) :
    takeCycle [] s = accept (cycleSource s).state
      (cycleOutcomeCode (cycleSource s).outcome :: le4 (cycleCountField (cycleSource s))) := by
  simp [takeCycle, parseNothing, sized, h]

theorem takeCycle_busy {s : State} (hsource : s.run.setup.cycleSource ≠ .command) (hidle : s.run.state ≠ .idle)
    (harmed : s.run.state ≠ .armed) : takeCycle [] s = refuse .busy s := by
  simp [takeCycle, parseNothing, sized, hsource, hidle, harmed]

/-- CYCLE's reply carries the cycle count for ACCEPTED only (R61). -/
theorem cycleCountField_eq (r : Sourced) :
    cycleCountField r = if r.outcome = .accepted then r.state.run.cycleCount else 0 := by
  unfold cycleCountField
  split <;> simp_all

end Sys2Proof.RunControlProofs
end

section
/-!
PROOFS. Cycle-source events (03_run_control_and_triggers.md section 3.6): which are accepted and what an acceptance
does, and what every other one comes to.
-/

namespace Sys2Proof.RunControlProofs

open Sys2Proof.Machine Sys2Proof.Safety Sys2Proof.ShotProofs Sys2Proof.RunProofs

/-! ### What a cycle-source event comes to (R57, R58, R59, R64) -/

/-- An event that finds a cycle in progress is missed, in a run that takes cycles (R58, R59). -/
theorem cycleSource_missed {s : State} (h : TakesCycles s) (hbusy : s.seq.state ≠ .quiet) :
    cycleSource s = ⟨countMissed s, .missed⟩ := by
  rcases h with hrun | ⟨hrun, hleft⟩
  · simp [cycleSource, hrun, hbusy]
  · simp [cycleSource, hrun, hbusy, hleft.ne']

/-- In PAUSED every event is missed (R58). -/
theorem cycleSource_paused {s : State} (h : s.run.state = .paused) : cycleSource s = ⟨countMissed s, .missed⟩ := by
  simp [cycleSource, h]

/-- In IDLE and ARMED, and in FINISHING with no cycle left, an event is ignored (R58, R64). -/
theorem cycleSource_ignored {s : State}
    (h : s.run.state = .idle ∨ s.run.state = .armed ∨ (s.run.state = .finishing ∧ s.run.afterLeft = 0)) :
    cycleSource s = ⟨s, .ignored⟩ := by
  rcases h with h | h | ⟨h, hnone⟩ <;> simp [cycleSource, *]

theorem cycleSource_delaying {s : State} (h : s.run.state = .delaying) : cycleSource s = ⟨countDown s, .delay⟩ := by
  simp [cycleSource, h]

/-- No cycle-source event takes a FINISHING run out of FINISHING (R64). -/
theorem cycleSource_finishing {s : State} (h : s.run.state = .finishing) :
    (cycleSource s).state.run.state = .finishing := by
  by_cases hnone : s.run.afterLeft = 0
  · rw [cycleSource_ignored (.inr (.inr ⟨h, hnone⟩))]
    exact h
  · have htakes : TakesCycles s := .inr ⟨h, Nat.pos_of_ne_zero hnone⟩
    by_cases hquiet : s.seq.state = .quiet
    · rw [cycleSource_accepted htakes hquiet]
      exact (accepted_finishing h).2
    · rw [cycleSource_missed htakes hquiet]
      exact h

@[simp] theorem accepted_setup (s : State) : (accepted s).run.setup = s.run.setup := by
  rw [accepted_run]
  split <;> rfl

/-- No cycle-source event changes the run setup. -/
@[simp] theorem cycleSource_setup (s : State) : (cycleSource s).state.run.setup = s.run.setup := by
  have htaking (h : TakesCycles s) : (cycleSource s).state.run.setup = s.run.setup := by
    by_cases hquiet : s.seq.state = .quiet
    · rw [cycleSource_accepted h hquiet]
      exact accepted_setup s
    · rw [cycleSource_missed h hquiet]
      rfl
  cases h : s.run.state with
  | idle => rw [cycleSource_ignored (.inl h)]
  | armed => rw [cycleSource_ignored (.inr (.inl h))]
  | delaying =>
    rw [cycleSource_delaying h]
    simp only [countDown]
    split <;> simp
  | running => exact htaking (.inl h)
  | finishing =>
    by_cases hnone : s.run.afterLeft = 0
    · rw [cycleSource_ignored (.inr (.inr ⟨h, hnone⟩))]
    · exact htaking (.inr ⟨h, Nat.pos_of_ne_zero hnone⟩)
  | paused =>
    rw [cycleSource_paused h]
    rfl

/-! ### The TRIG edge as a cycle-source event (R51) -/

theorem trigCycle_trig {s : State} (h : s.run.setup.cycleSource = .trig) : trigCycle s = (cycleSource s).state :=
  if_pos h

theorem trigStop_none {s : State} (h : s.run.setup.stopSource ≠ .trigEdge) : trigStop s = s := if_neg h

/-- A stop event in IDLE, ARMED or FINISHING is ignored (R63). -/
theorem stopEvent_ignored {k : StopKind} {s : State}
    (h : s.run.state = .idle ∨ s.run.state = .armed ∨ s.run.state = .finishing) : stopEvent k s = s := by
  rcases h with h | h | h <;> simp [stopEvent, h]

theorem trigStop_ignored {s : State} (h : s.run.state = .idle ∨ s.run.state = .armed ∨ s.run.state = .finishing) :
    trigStop s = s := by
  simp [trigStop, stopEvent_ignored h]

/-- The active edge of TRIG in a run that takes cycles, cycle source TRIG, when no stop follows (R51, R64). -/
theorem trigOperate_cycle {s : State} (htakes : TakesCycles s) (hsource : s.run.setup.cycleSource = .trig)
    (hstop : s.run.setup.stopSource ≠ .trigEdge ∨ s.run.state = .finishing) :
    trigOperate s = (cycleSource s).state := by
  rcases htakes with hrun | ⟨hrun, -⟩
  · have hnone : s.run.setup.stopSource ≠ .trigEdge := hstop.resolve_right (by simp [hrun])
    simp only [trigOperate, hrun]
    rw [trigCycle_trig hsource, trigStop_none (by simpa using hnone)]
  · simp only [trigOperate, hrun]
    exact trigCycle_trig hsource

/-- Under start source COMMAND and cycle source TRIG the edge is a cycle-source event and then a stop (R51). -/
theorem trigOperate_source {s : State} (hsource : s.run.setup.cycleSource = .trig)
    (hstart : s.run.setup.startSource = .command) : trigOperate s = trigStop (cycleSource s).state := by
  cases h : s.run.state with
  | idle => simp [trigOperate, h, cycleSource_ignored (.inl h), trigStop_ignored (.inl h)]
  | armed =>
    simp [trigOperate, trigArmed, h, hstart, cycleSource_ignored (.inr (.inl h)), trigStop_ignored (.inr (.inl h))]
  | delaying | running => simp [trigOperate, h, trigCycle_trig hsource]
  | finishing =>
    simp [trigOperate, h, trigCycle_trig hsource, trigStop_ignored (.inr (.inr (cycleSource_finishing h)))]
  | paused => simp [trigOperate, h, hstart, trigCycle_trig hsource]

/-! ### The settled statements -/

/-- Settles O38: each source gives a cycle-source event, and `cycleSource_accepted` says what it comes to. -/
theorem cycleRequestAccepted : Obligations.CycleRequestAccepted := by
  intro s htakes hquiet
  refine ⟨fun hrest hpacer => ?_, fun hrest hsource hmode hlast => ?_, fun hrest hsource hmode hstop => ?_,
    fun tag hready hsource => ?_, fun e t unlocked hdue he => cycleBegin_nothingDue unlocked hdue he⟩
  · rw [exec_pacerExpiry hrest, pacerExpiry_running hpacer,
      cycleSource_accepted (s := pacerRestarted s) htakes hquiet]
    rfl
  · have hedge := encoderEdge_last ((encoderCounts_iff s).mpr ⟨hsource, hmode⟩) hlast
    rw [exec_encoderCounterZero hrest, exec_encEdge hrest, encoderZero_last hlast, hedge,
      cycleSource_accepted (s := encoderReloaded s) htakes hquiet]
    exact ⟨rfl, rfl⟩
  · rw [exec_trigActiveEdge hrest, trigActiveEdge_operate hmode,
      trigOperate_cycle (s := trigAtActive s) htakes hsource hstop,
      cycleSource_accepted (s := trigAtActive s) htakes hquiet]
    rfl
  · rw [cycle_ready hready, takeCycle_acts (.inl hsource), cycleSource_accepted htakes hquiet]
    simp only [accept, cycleCountField, accepted_cycleCount]
    rfl

/-- Settles O39: the outcomes by run state, and the event that each of the four sources gives. -/
theorem cycleSourceOutcomes : Obligations.CycleSourceOutcomes := by
  refine ⟨fun s => ⟨?_, ?_, ?_, ?_, ?_⟩, fun s hrest => ⟨?_, ?_, ?_, ?_, ?_⟩, fun tag s hready => ⟨?_, ?_⟩⟩
  · exact fun h => cycleSource_ignored (h.imp_right .inl)
  · exact fun h hnone => cycleSource_ignored (.inr (.inr ⟨h, hnone⟩))
  · exact fun h => cycleSource_paused h
  · refine fun htakes => ⟨fun hbusy => cycleSource_missed htakes hbusy, fun hquiet => ?_⟩
    rw [cycleSource_accepted htakes hquiet]
    exact ⟨rfl, accepted_missed s, accepted_cycleCount s, accepted_missedDuring s, accepted_finishing⟩
  · intro h
    rw [cycleSource_delaying h]
    refine ⟨fun hmore => ?_, fun hlast => ?_⟩
    · simp [countDown, show s.run.delayLeft - 1 ≠ 0 by omega]
    · simp [countDown, show s.run.delayLeft - 1 = 0 by omega]
  · intro hpacer
    rw [exec_pacerExpiry hrest, pacerExpiry_running hpacer]
    rfl
  · intro hstopped
    have hnothing : pacerExpiry s = s := by simp [pacerExpiry, hstopped]
    rw [exec_pacerExpiry hrest, hnothing, startSend_silent hrest rfl]
  · intro hsource hmode
    have hcounts := (encoderCounts_iff s).mpr ⟨hsource, hmode⟩
    refine ⟨fun hmore => ?_, fun hlast => ?_⟩
    · have hedge := encoderEdge_counts hcounts hmore
      have hzero : encoderZero s = s := if_neg hmore.ne'
      rw [exec_encEdge hrest, exec_encoderCounterZero hrest, startSend_silent hrest (by rw [hedge]),
        startSend_silent hrest (by rw [hzero]), hedge, hzero]
      exact ⟨rfl, rfl⟩
    · rw [exec_encEdge hrest, exec_encoderCounterZero hrest, encoderZero_last hlast, encoderEdge_last hcounts hlast]
      exact ⟨rfl, rfl⟩
  · intro hoff
    have hcounts : encoderCounts s = false := by
      rw [Bool.eq_false_iff, Ne, encoderCounts_iff]
      tauto
    have hedge : encoderEdge s = s := by simp [encoderEdge, hcounts]
    have hzero : encoderZero s = s := by simp [encoderZero, hedge]
    rw [exec_encEdge hrest, exec_encoderCounterZero hrest, hedge, hzero, startSend_silent hrest rfl]
    exact ⟨rfl, rfl⟩
  · intro hsource hstart hmode
    rw [exec_trigActiveEdge hrest, trigActiveEdge_operate hmode, 
      trigOperate_source (s := trigAtActive s) hsource hstart, trigStop, cycleSource_setup]
    rfl
  · intro h
    rw [cycle_ready hready, takeCycle_acts h, cycleCountField_eq]
    rfl
  · intro hsource hidle harmed
    rw [cycle_ready hready, takeCycle_busy hsource hidle harmed]
    rfl

end Sys2Proof.RunControlProofs
end

section
/-!
PROOFS. RUN_SETUP (03_run_control_and_triggers.md section 3.2): what its bytes decode to, and what the command does.
-/

namespace Sys2Proof.RunControlProofs

open Sys2Proof.Machine Sys2Proof.Safety Sys2Proof.ShotTableProofs

/-! ### The bytes of a run setup (R46, R183) -/

/-- The ranges and combinations that RUN_SETUP allows (R46, R47). -/
theorem setupAllowed_iff (u : RunSetup) :
    (setupInRange u && sourcesAllowed u) = true ↔
      1 ≤ u.stopCount ∧ 100 ≤ u.pacerPeriod ∧ u.pacerPeriod ≤ 2000000 ∧ 1 ≤ u.encoderSpan ∧
      ¬(u.cycleSource = .trig ∧ u.startSource ≠ .command) ∧
      ¬(u.stopSource = .trigEdge ∧ u.startSource = .trigGate) := by
  simp only [setupInRange, sourcesAllowed, Bool.and_eq_true, decide_eq_true_eq, and_assoc]
  cases u.startSource <;> simp

/-- The bytes of a run setup, offset by offset (R46). -/
theorem runSetupBytes_eq (u : RunSetup) :
    runSetupBytes u =
      [startSourceCode u.startSource, cycleSourceCode u.cycleSource, stopSourceCode u.stopSource,
       BitVec.ofNat 8 u.stopCount, BitVec.ofNat 8 (u.stopCount / 256), BitVec.ofNat 8 (u.stopCount / 65536),
       BitVec.ofNat 8 (u.stopCount / 16777216), BitVec.ofNat 8 u.delay, BitVec.ofNat 8 (u.delay / 256),
       BitVec.ofNat 8 u.afterCount, BitVec.ofNat 8 (u.afterCount / 256), boolCode u.repeats,
       BitVec.ofNat 8 u.pacerPeriod, BitVec.ofNat 8 (u.pacerPeriod / 256), BitVec.ofNat 8 (u.pacerPeriod / 65536),
       BitVec.ofNat 8 (u.pacerPeriod / 16777216), BitVec.ofNat 8 u.encoderSpan, BitVec.ofNat 8 (u.encoderSpan / 256),
       polarityCode u.polarity, u.auxIdle, boolCode u.faultHalts] := by
  unfold runSetupBytes
  rw [le4_eq, le4_eq]
  rfl

theorem length_runSetupBytes (u : RunSetup) : (runSetupBytes u).length = 21 := rfl

/-- The numbers of a run setup fit their fields (section 3.2). -/
structure SetupFits (u : RunSetup) : Prop where
  stopCount : u.stopCount < 4294967296
  delay : u.delay < 65536
  afterCount : u.afterCount < 65536
  pacerPeriod : u.pacerPeriod < 4294967296
  encoderSpan : u.encoderSpan < 65536

/-- Each offset of a run setup's bytes reads back the number written there. -/
theorem runSetupBytes_numbers {u : RunSetup} (h : SetupFits u) :
    word32At (runSetupBytes u) 3 = u.stopCount ∧ word16At (runSetupBytes u) 7 = u.delay ∧
    word16At (runSetupBytes u) 9 = u.afterCount ∧ word32At (runSetupBytes u) 12 = u.pacerPeriod ∧
    word16At (runSetupBytes u) 16 = u.encoderSpan := by
  rw [runSetupBytes_eq]
  exact ⟨word32At_le4 h.stopCount rfl rfl rfl rfl, word16At_le2 h.delay rfl rfl, word16At_le2 h.afterCount rfl rfl,
    word32At_le4 h.pacerPeriod rfl rfl rfl rfl, word16At_le2 h.encoderSpan rfl rfl⟩

theorem startSourceOf_code (x : StartSource) : startSourceOf (startSourceCode x).toNat = some x := by
  cases x <;> rfl
theorem cycleSourceOf_code (x : CycleSource) : cycleSourceOf (cycleSourceCode x).toNat = some x := by
  cases x <;> rfl
theorem stopSourceOf_code (x : StopSource) : stopSourceOf (stopSourceCode x).toNat = some x := by
  cases x <;> rfl
theorem boolOf_code (x : Bool) : boolOf (boolCode x).toNat = some x := by
  cases x <;> rfl
theorem polarityOf_code (x : Polarity) : polarityOf (polarityCode x).toNat = some x := by
  cases x <;> rfl

/-- Each encoded offset of a run setup's bytes decodes to the value written there. -/
theorem runSetupBytes_encodings (u : RunSetup) :
    startSourceOf (byteAt (runSetupBytes u) 0) = some u.startSource ∧
    cycleSourceOf (byteAt (runSetupBytes u) 1) = some u.cycleSource ∧
    stopSourceOf (byteAt (runSetupBytes u) 2) = some u.stopSource ∧
    boolOf (byteAt (runSetupBytes u) 11) = some u.repeats ∧
    polarityOf (byteAt (runSetupBytes u) 18) = some u.polarity ∧
    (runSetupBytes u).getD 19 0#8 = u.auxIdle ∧
    boolOf (byteAt (runSetupBytes u) 20) = some u.faultHalts :=
  ⟨startSourceOf_code _, cycleSourceOf_code _, stopSourceOf_code _, boolOf_code _, polarityOf_code _, rfl,
    boolOf_code _⟩

/-- RUN_SETUP decodes the setup whose bytes it carries, and refuses one that is not allowed (R46, R47). -/
theorem parseRunSetup_bytes {u : RunSetup} (h : SetupFits u) :
    parseRunSetup (runSetupBytes u) =
      if (setupInRange u && sourcesAllowed u) = true then .ok u else .error .badValue := by
  obtain ⟨hcount, hdelay, hafter, hperiod, hspan⟩ := runSetupBytes_numbers h
  obtain ⟨hstart, hcycle, hstop, hrepeats, hpolarity, haux, hhalts⟩ := runSetupBytes_encodings u
  rw [parseRunSetup, hstart, hcycle, hstop, hrepeats, hpolarity, haux, hhalts, hcount, hdelay, hafter, hperiod, hspan]
  cases hok : setupInRange u && sourcesAllowed u with
  | true => simpa [checked, hok] using sized_some (length_runSetupBytes u) u
  | false => simpa [checked, hok] using sized_none (length_runSetupBytes u)

/-- An undefined encoding is BAD_VALUE (R46 check 2). -/
theorem parseRunSetup_undefined {b : List Byte} (hlen : b.length = 21)
    (h : 3 ≤ byteAt b 0 ∨ 4 ≤ byteAt b 1 ∨ 4 ≤ byteAt b 2 ∨ 2 ≤ byteAt b 11 ∨ 2 ≤ byteAt b 18 ∨ 2 ≤ byteAt b 20) :
    parseRunSetup b = .error .badValue := by
  have hnone : startSourceOf (byteAt b 0) = none ∨ cycleSourceOf (byteAt b 1) = none ∨
      stopSourceOf (byteAt b 2) = none ∨ boolOf (byteAt b 11) = none ∨ polarityOf (byteAt b 18) = none ∨
      boolOf (byteAt b 20) = none :=
    h.imp startSourceOf_none (.imp cycleSourceOf_none (.imp stopSourceOf_none (.imp boolOf_none
      (.imp polarityOf_none boolOf_none))))
  unfold parseRunSetup
  split
  · simp_all
  · exact sized_none hlen

/-! ### RUN_SETUP (R46, R48) -/

theorem runSetup_ready {tag : Byte} {b : List Byte} {s : State} (h : Ready s) (hlen : b.length = 21) :
    exec (.runSetup tag b) s =
      .next (replied 0xA0#8 tag (takeRunSetup b s).reply (takeRunSetup b s).state) :=
  hostCommand_unstageable h (by omega) rfl

theorem takeRunSetup_refused {b : List Byte} {st : Status} (s : State) (h : parseRunSetup b = .error st) :
    takeRunSetup b s = refuse st s := by
  simp [takeRunSetup, h]

/-- RUN_SETUP of an allowed setup is stored in IDLE and BUSY elsewhere (R46 check 4, R48). -/
theorem takeRunSetup_allowed {b : List Byte} {u : RunSetup} (s : State) (h : parseRunSetup b = .ok u) :
    takeRunSetup b s =
      if s.run.state = .idle then accept (putRunSetup u s) (runSetupBytes u) else refuse .busy s := by
  simp [takeRunSetup, h, putRunSetup]

/-- Settles O40: the undefined encodings, then a whole setup by R46's checks. -/
theorem runSetupStored : Obligations.RunSetupStored := by
  refine ⟨fun tag b s hready hlen hbad => ?_, fun tag u s hready hcount hdelay hafter hperiod hspan => ?_⟩
  · rw [runSetup_ready hready hlen, takeRunSetup_refused s (parseRunSetup_undefined hlen hbad)]
    rfl
  · have hfits : SetupFits u := ⟨hcount, hdelay, hafter, hperiod, hspan⟩
    have htaken : exec (.runSetup tag (runSetupBytes u)) s =
        .next (replied 0xA0#8 tag (takeRunSetup (runSetupBytes u) s).reply (takeRunSetup (runSetupBytes u) s).state) :=
      runSetup_ready hready (length_runSetupBytes u)
    have hparsed := parseRunSetup_bytes hfits
    refine ⟨fun hallowed hidle => ?_, fun hallowed hbusy => ?_, fun hrefused => ?_⟩
    · rw [if_pos ((setupAllowed_iff u).mpr hallowed)] at hparsed
      refine htaken.trans ?_
      rw [takeRunSetup_allowed s hparsed, if_pos hidle]
      rfl
    · rw [if_pos ((setupAllowed_iff u).mpr hallowed)] at hparsed
      refine htaken.trans ?_
      rw [takeRunSetup_allowed s hparsed, if_neg hbusy]
      rfl
    · rw [if_neg (mt (setupAllowed_iff u).mp hrefused)] at hparsed
      refine htaken.trans ?_
      rw [takeRunSetup_refused s hparsed]
      rfl

end Sys2Proof.RunControlProofs
end

section
/-!
PROOFS. Start events, the resume and stop events (03_run_control_and_triggers.md sections 3.5 to 3.9): START and HALT
by run state, and the end of a run.
-/

namespace Sys2Proof.RunControlProofs

open Sys2Proof.Machine Sys2Proof.Safety Sys2Proof.ShotProofs Sys2Proof.RunProofs

/-! ### START (R53, R54, R55) -/

theorem start_ready {tag : Byte} {s : State} (h : Ready s) :
    exec (.start tag []) s = .next (replied 0xA1#8 tag (takeStart [] s).reply (takeStart [] s).state) :=
  hostCommand_unstageable h (by simp) rfl

/-- START by its checks in their order (R53). -/
theorem takeStart_nil (s : State) :
    takeStart [] s =
      if s.supply.mode ≠ .operate then refuse .notReady s
      else if s.seq.state = .testing then refuse .busy s
      else if s.table.count ≤ s.table.seqStart then refuse .noSequence s
      else match startByState s with
        | none => refuse .busy s
        | some t => accept t (runField t) := rfl

/-- START reaches the run state: OPERATE, no test shot, a sequence to run (R52, R53). -/
structure StartAllowed (s : State) : Prop where
  operate : s.supply.mode = .operate
  noTest : s.seq.state ≠ .testing
  sequence : s.table.seqStart < s.table.count

theorem takeStart_acts {s t : State} (h : StartAllowed s) (ht : startByState s = some t) :
    takeStart [] s = accept t (runField t) := by
  simp [takeStart_nil, h.operate, h.noTest, h.sequence, ht]

theorem takeStart_busy {s : State} (h : StartAllowed s) (hnone : startByState s = none) :
    takeStart [] s = refuse .busy s := by
  simp [takeStart_nil, h.operate, h.noTest, h.sequence, hnone]

/-- Arming with the gate at its active level starts the run at once (R54, R56). -/
theorem armRun_gate {s : State} (h : s.run.setup.startSource = .trigGate) :
    armRun s = if (s.run.setup.polarity = .rising ↔ s.pins.trigHigh = true) then startEvent (changeRun .armed .arm s)
      else changeRun .armed .arm s := by
  simp only [armRun, gateCheck, trigActive_iff, changeRun_run, changeRun_pins, h, true_and]

theorem armRun_noGate {s : State} (h : s.run.setup.startSource ≠ .trigGate) :
    armRun s = changeRun .armed .arm s := by
  simp [armRun, gateCheck, h]

/-! ### The resume (R37, R66) -/

/-- A resume short of the last entry starts the next shot, with no hold and no bank applied (R37). -/
theorem resume_next {s : State} {e : ShotEntry} (hlast : s.seq.lastEntry = false)
    (he : s.table.entries[s.seq.cursor + 1]? = some e) :
    resume s = leadPassed e (enterLead (s.seq.cursor + 1) e false { changeRun .running .resume s with
      seq.cursor := s.seq.cursor + 1, seq.position := s.seq.position + 1, seq.state := .shooting }) := by
  have hnext := nextShot_defined (s := changeRun .running .resume s) (e := e) (by simpa using he)
  have hresume : resume s = nextShot (changeRun .running .resume s) := by simp [resume, hlast]
  rw [hresume, hnext]
  simp only [changeRun_seq]

/-- A resume after a last entry closes the cycle, and the run goes on RUNNING (R37, R64). -/
theorem resume_last {s : State} (hlast : s.seq.lastEntry = true) :
    resume s = closeCycle (changeRun .running .resume s) := by
  simp [resume, hlast]

theorem closeCycle_resumed (s : State) :
    closeCycle (changeRun .running .resume s) = cycleClosed (changeRun .running .resume s) :=
  closeCycle_goesOn (.inl (by simp))

theorem cycleClosed_regs (s : State) : (cycleClosed s).regs = s.regs.map closeRegulator := by
  simp [cycleClosed, updateRegs]

/-- Settles O41: START's checks, `startByState` case by case, and the two ways a resume goes on. -/
theorem startByRunState : Obligations.StartByRunState := by
  intro tag s hready
  dsimp only
  rw [start_ready hready]
  refine ⟨fun hmode => ?_, fun hmode htest => ?_, fun hmode htest hnone => ?_, fun hmode htest hseq => ?_, ?_, ?_⟩
  · rw [takeStart_nil, if_pos hmode]
    rfl
  · rw [takeStart_nil, if_neg (not_not.mpr hmode), if_pos htest]
    rfl
  · rw [takeStart_nil, if_neg (not_not.mpr hmode), if_neg htest, if_pos hnone]
    rfl
  · have hallowed : StartAllowed s := ⟨hmode, htest, hseq⟩
    refine ⟨fun hrun hsource => ?_, fun hrun hsource => ?_, fun hrun hsource => ?_, fun hrun hsource => ?_,
      fun hrun hsource => ?_, fun hrun hsource => ?_, fun hrun => ?_⟩
    · have hacts : startByState s = some (startEvent s) := by
        rcases hrun with hrun | hrun <;> simp [startByState, hrun, hsource]
      rw [takeStart_acts hallowed hacts]
      rfl
    · have hacts : startByState s = some (changeRun .armed .arm s) := by
        rw [← armRun_noGate (by simp [hsource])]
        simp [startByState, hrun, hsource]
      rw [takeStart_acts hallowed hacts]
      rfl
    · have hacts : startByState s = some (armRun s) := by simp [startByState, hrun, hsource]
      rw [takeStart_acts hallowed hacts, armRun_gate hsource]
      rfl
    · have hacts : startByState s = some s := by
        cases hs : s.run.setup.startSource with
        | command => exact absurd hs hsource
        | trigEdge | trigGate => simp [startByState, hrun, hs]
      rw [takeStart_acts hallowed hacts]
      rfl
    · have hacts : startByState s = some (resume s) := by simp [startByState, hrun, hsource]
      rw [takeStart_acts hallowed hacts]
      rfl
    · have hbusy : startByState s = none := by
        cases hs : s.run.setup.startSource with
        | command => exact absurd hs hsource
        | trigEdge | trigGate => simp [startByState, hrun, hs]
      rw [takeStart_busy hallowed hbusy]
      rfl
    · have hbusy : startByState s = none := by rcases hrun with hrun | hrun | hrun <;> simp [startByState, hrun]
      rw [takeStart_busy hallowed hbusy]
      rfl
  · intro hlast e he
    rw [resume_next hlast he]
    simp only [enterLead, changeRun_table]
  · intro hlast
    rw [resume_last hlast]
    refine ⟨rfl, ?_⟩
    rw [closeCycle_resumed, cycleClosed_run, cycleClosed_regs, changeRun_run, changeRun_regs]
    exact ⟨rfl, cycleClosed_quiet _, rfl⟩

/-! ### Run end (R65) -/

/-- Run end before the gate is looked at: the pacer stopped, `aux_idle` driven, the run at its destination (R65). -/
def runEnded (s : State) : State :=
  changeRun (runDestination s.run.stopKind s.run.setup.repeats) .runEnd (closeRun s)

/-- Run end into ARMED under an active gate starts the next run at once (R56, R65). -/
theorem runEnd_gate {s : State} (harmed : runDestination s.run.stopKind s.run.setup.repeats = .armed)
    (hsource : s.run.setup.startSource = .trigGate)
    (hactive : s.run.setup.polarity = .rising ↔ s.pins.trigHigh = true) : runEnd s = startEvent (runEnded s) := by
  have hgate : (runEnded s).run.setup.startSource = .trigGate ∧ trigActive (runEnded s) = true := by
    rw [trigActive_iff]
    simpa [runEnded, closeRun] using And.intro hsource hactive
  have hdest : (runEnded s).run.state = .armed := by simp [runEnded, harmed]
  show (if (runEnded s).run.state = .armed then gateCheck (runEnded s) else runEnded s) = _
  rw [if_pos hdest, gateCheck, if_pos hgate]

/-- Any other run end stays where it went (R65). -/
theorem runEnd_stays {s : State}
    (h : runDestination s.run.stopKind s.run.setup.repeats = .idle ∨ s.run.setup.startSource ≠ .trigGate ∨
      ¬(s.run.setup.polarity = .rising ↔ s.pins.trigHigh = true)) : runEnd s = runEnded s := by
  have hgate : (runEnded s).run.state = .armed →
      ¬((runEnded s).run.setup.startSource = .trigGate ∧ trigActive (runEnded s) = true) := by
    rw [trigActive_iff]
    simp only [runEnded, closeRun, changeRun_run, changeRun_pins]
    rintro harmed ⟨hsource, hactive⟩
    rcases h with h | h | h
    · rw [h] at harmed
      cases harmed
    · exact h hsource
    · exact h hactive
  show (if (runEnded s).run.state = .armed then gateCheck (runEnded s) else runEnded s) = _
  split
  · next harmed => exact if_neg (hgate harmed)
  · rfl

/-- Run end by its destination, however the destination is computed (R65). -/
theorem runEnd_byDestination {d : RunState} {s : State} (hd : d = runDestination s.run.stopKind s.run.setup.repeats) :
    (d = .armed → s.run.setup.startSource = .trigGate → (s.run.setup.polarity = .rising ↔ s.pins.trigHigh = true) →
      runEnd s = startEvent (changeRun d .runEnd (closeRun s))) ∧
    (d = .idle ∨ s.run.setup.startSource ≠ .trigGate ∨ ¬(s.run.setup.polarity = .rising ↔ s.pins.trigHigh = true) →
      runEnd s = changeRun d .runEnd (closeRun s)) := by
  subst hd
  exact ⟨runEnd_gate, runEnd_stays⟩

/-! ### Stop events (R63) -/

theorem stopEvent_delaying {k : StopKind} {s : State} (h : s.run.state = .delaying) :
    stopEvent k s = runEnd (noteStop k s) := by
  simp [stopEvent, h]

/-- FINISHING entered with the sequencer QUIET and after-left 0 is the end of the run (R64). -/
theorem runEndCheck_finishing (s : State) :
    runEndCheck (changeRun .finishing .stop s) =
      if s.seq.state = .quiet ∧ s.run.afterLeft = 0 then runEnd (changeRun .finishing .stop s)
      else changeRun .finishing .stop s := by
  unfold runEndCheck
  simp [and_comm]

theorem stopEvent_running {k : StopKind} {s : State} (h : s.run.state = .running) :
    stopEvent k s =
      if s.seq.state = .quiet ∧ afterLeftOf k s.run.setup = 0 then runEnd (changeRun .finishing .stop (noteStop k s))
      else changeRun .finishing .stop (noteStop k s) := by
  simp only [stopEvent, h]
  exact runEndCheck_finishing (noteStop k s)

/-- A stop in PAUSED closes the suspended cycle short, and ends the run at once with after-left 0 (R39, R63). -/
theorem stopEvent_paused {k : StopKind} {s : State} (h : s.run.state = .paused) :
    stopEvent k s =
      if afterLeftOf k s.run.setup = 0 then
        runEnd (changeRun .finishing .stop (closeCycle { noteStop k s with seq.flags.short := true }))
      else changeRun .finishing .stop (closeCycle { noteStop k s with seq.flags.short := true }) := by
  have hclosed : closeCycle { noteStop k s with seq.flags.short := true } =
      cycleClosed { noteStop k s with seq.flags.short := true } := by
    refine closeCycle_goesOn (.inl ?_)
    show s.run.state ≠ .finishing
    simp [h]
  simp only [stopEvent, h]
  rw [runEndCheck_finishing, hclosed, cycleClosed_run, cycleClosed_quiet]
  simp [noteStop]

/-! ### HALT (R67) -/

theorem halt_ready {tag : Byte} {s : State} (h : Ready s) :
    exec (.halt tag []) s =
      .next (replied 0xA3#8 tag [0#8, runStateCode (haltRun s).run.state] (haltRun s)) :=
  hostCommand_unstageable h (by simp) rfl

/-- HALT raises the stop in DELAYING, RUNNING and PAUSED (R67). -/
theorem haltRun_stops {s : State}
    (h : s.run.state = .delaying ∨ s.run.state = .running ∨ s.run.state = .paused) :
    haltRun s = stopEvent .halt s := by
  rcases h with h | h | h <;> simp [haltRun, h]

/-- Settles O42: HALT by run state, run end by its destination, and the stop event by run state. -/
theorem haltAndRunEnd : Obligations.HaltAndRunEnd := by
  refine ⟨fun tag s hready => ?_, fun s => ?_, fun k s => ?_⟩
  · dsimp only
    rw [halt_ready hready]
    refine ⟨fun h => ?_, fun h => ?_, fun h => ?_, fun h => ?_, fun h => ?_⟩
    · have hnone : haltRun s = s := by rcases h with h | h <;> simp [haltRun, h]
      rw [hnone]
    · have hdisarm : haltRun s = changeRun .idle .disarm s := by simp [haltRun, h]
      rw [hdisarm]
    · rw [haltRun_stops (.inl h), stopEvent_delaying h]
      rfl
    · rw [haltRun_stops (.inr (.inl h)), stopEvent_running h]
      simp only [afterLeftOf, and_true, noteStop]
    · rw [haltRun_stops (.inr (.inr h)), stopEvent_paused h]
      simp only [afterLeftOf, if_true, noteStop]
  · exact runEnd_byDestination (by cases s.run.stopKind <;> rfl)
  · cases k <;> exact ⟨stopEvent_ignored, stopEvent_delaying, stopEvent_running, stopEvent_paused⟩

end Sys2Proof.RunControlProofs
end

section
/-!
PROOFS. The edges of TRIG by supply mode and run state (03_run_control_and_triggers.md sections 3.4 and 3.5).
-/

namespace Sys2Proof.RunControlProofs

open Sys2Proof.Machine Sys2Proof.Safety Sys2Proof.ShotProofs

/-! ### The active edge (R51, R56, R66, R177) -/

/-- In STANDBY the active edge wakes the part when wake-on-trigger is set (R177). -/
theorem trigActiveEdge_standby {s : State} (h : s.supply.mode = .standby) :
    trigActiveEdge s = if s.supply.wakeOnTrigger then wakeUp .trigger (trigAtActive s) else trigAtActive s := by
  simp only [trigActiveEdge, setTrig_true]
  rw [show (trigAtActive s).supply = s.supply from rfl, h]

theorem trigActiveEdge_waking {s : State} (h : s.supply.mode = .waking) : trigActiveEdge s = trigAtActive s := by
  simp only [trigActiveEdge, setTrig_true]
  rw [show (trigAtActive s).supply = s.supply from rfl, h]

/-- An active edge whose effect is the level it leaves begins no frame (R164). -/
theorem exec_trigActiveEdge_silent {s : State} (h : Resting s) (hlevel : trigActiveEdge s = trigAtActive s) :
    exec .trigActiveEdge s = .next (trigAtActive s) := by
  rw [exec_trigActiveEdge h, hlevel, startSend_silent (t := trigAtActive s) h rfl]

theorem trigOperate_idle {s : State} (h : s.run.state = .idle) : trigOperate s = s := by
  simp [trigOperate, h]

/-- In ARMED the active edge starts the run, unless START does (R51, R56). -/
theorem trigOperate_armed {s : State} (h : s.run.state = .armed) :
    trigOperate s = if s.run.setup.startSource = .command then s else startEvent s := by
  cases hsource : s.run.setup.startSource <;> simp [trigOperate, trigArmed, h, hsource]

theorem trigOperate_taking {s : State} (h : s.run.state = .delaying ∨ s.run.state = .running) :
    trigOperate s = trigStop (trigCycle s) := by
  rcases h with h | h <;> simp [trigOperate, h]

theorem trigOperate_finishing {s : State} (h : s.run.state = .finishing) : trigOperate s = trigCycle s := by
  simp [trigOperate, h]

theorem trigOperate_paused {s : State} (h : s.run.state = .paused) :
    trigOperate s = if s.run.setup.startSource = .trigEdge then resume s else trigStop (trigCycle s) := by
  simp [trigOperate, h]

/-! ### The inactive edge (R56) -/

theorem trigInactiveEdge_eq (s : State) :
    trigInactiveEdge s =
      if s.supply.mode = .operate ∧ s.run.setup.startSource = .trigGate then gateStop (trigAtInactive s)
      else trigAtInactive s := by
  simp only [trigInactiveEdge, setTrig_false]
  rfl

theorem gateStop_ignored {s : State} (hdelaying : s.run.state ≠ .delaying) (hrunning : s.run.state ≠ .running) :
    gateStop s = s := by
  unfold gateStop
  split
  · next h => exact absurd h hdelaying
  · next h => exact absurd h hrunning
  all_goals rfl

/-- The gate's return to inactive stops a run that is DELAYING or RUNNING (R56). -/
theorem gateStop_stops {s : State} (h : s.run.state = .delaying ∨ s.run.state = .running) :
    gateStop s = stopEvent .gate s := by
  rcases h with h | h <;> simp [gateStop, h]

theorem exec_trigInactiveEdge_silent {s : State} (h : Resting s) (hlevel : trigInactiveEdge s = trigAtInactive s) :
    exec .trigInactiveEdge s = .next (trigAtInactive s) := by
  rw [exec_trigInactiveEdge h, hlevel, startSend_silent (t := trigAtInactive s) h rfl]

theorem exec_trigInactiveEdge_gate {s : State} (h : Resting s) (hmode : s.supply.mode = .operate)
    (hgate : s.run.setup.startSource = .trigGate) :
    exec .trigInactiveEdge s = .next (startSend (gateStop (trigAtInactive s))) := by
  rw [exec_trigInactiveEdge h, trigInactiveEdge_eq, if_pos ⟨hmode, hgate⟩]

/-- Settles O44: each edge by supply mode, run state and start source. -/
theorem trigEdges : Obligations.TrigEdges := by
  intro s hrest
  refine ⟨fun hmode => ?_, fun hmode => ?_, fun hmode => ?_, fun hmode => ⟨fun hrun => ?_, fun hrun hsource => ?_,
    fun hrun hsource => ?_, fun hrun => ?_, fun hrun => ?_, fun hrun => ?_, fun hsource => ?_,
    fun hgate => ⟨fun hrun => ?_, fun hrun => ?_, fun hdelaying hrunning => ?_⟩⟩⟩
  · rw [exec_trigActiveEdge hrest, trigActiveEdge_standby hmode]
    rfl
  · exact exec_trigActiveEdge_silent hrest (trigActiveEdge_waking hmode)
  · exact exec_trigInactiveEdge_silent hrest (by rw [trigInactiveEdge_eq, if_neg (by tauto)])
  · exact exec_trigActiveEdge_silent hrest
      ((trigActiveEdge_operate hmode).trans (trigOperate_idle (s := trigAtActive s) hrun))
  · exact exec_trigActiveEdge_silent hrest
      ((trigActiveEdge_operate hmode).trans ((trigOperate_armed (s := trigAtActive s) hrun).trans (if_pos hsource)))
  · rw [exec_trigActiveEdge hrest, trigActiveEdge_operate hmode, trigOperate_armed (s := trigAtActive s) hrun]
    exact congrArg (fun t => Host.Outcome.next (startSend t)) (if_neg hsource)
  · rw [exec_trigActiveEdge hrest, trigActiveEdge_operate hmode, trigOperate_taking (s := trigAtActive s) hrun]
    rfl
  · rw [exec_trigActiveEdge hrest, trigActiveEdge_operate hmode, trigOperate_finishing (s := trigAtActive s) hrun]
    rfl
  · rw [exec_trigActiveEdge hrest, trigActiveEdge_operate hmode, trigOperate_paused (s := trigAtActive s) hrun]
    rfl
  · exact exec_trigInactiveEdge_silent hrest (by rw [trigInactiveEdge_eq, if_neg (by tauto)])
  · rw [exec_trigInactiveEdge_gate hrest hmode hgate, gateStop_stops (s := trigAtInactive s) (.inl hrun),
      stopEvent_delaying (s := trigAtInactive s) hrun]
    rfl
  · rw [exec_trigInactiveEdge_gate hrest hmode hgate, gateStop_stops (s := trigAtInactive s) (.inr hrun),
      stopEvent_running (s := trigAtInactive s) hrun]
    simp only [afterLeftOf, and_true]
    rfl
  · rw [exec_trigInactiveEdge_gate hrest hmode hgate, gateStop_ignored (s := trigAtInactive s) hdelaying hrunning,
      startSend_silent (t := trigAtInactive s) hrest rfl]
    rfl

end Sys2Proof.RunControlProofs
end

section
/-!
PROOFS. ABORT (03_run_control_and_triggers.md section 3.10, 02_shot_execution_and_sensing.md section 2.10): what it does
to the sequencer, the regulators and the run, and the two reports it raises.
-/

namespace Sys2Proof.RunControlProofs

open Sys2Proof.Machine Sys2Proof.Safety Sys2Proof.ShotProofs

theorem abort_ready {tag : Byte} {s : State} (h : Ready s) :
    exec (.abort tag []) s = .next (replied 0xA4#8 tag (takeAbort [] s).reply (takeAbort [] s).state) :=
  hostCommand_unstageable h (by simp) rfl

/-! ### The sequencer and the regulators (R43, R79, R109) -/

/-- A cycle is in progress; a held one is (R43; log entry 27). -/
abbrev InCycle (s : State) : Prop :=
  s.seq.state = .shooting ∨ s.seq.state = .suspended ∨ s.seq.state = .waitSync

/-- The number of the cycle that ABORT discards, for a held cycle the one it would have had (R43). -/
def discardedNumber (s : State) : Nat :=
  if s.seq.state = .waitSync then wrap32 s.seq.cycleNumber else s.seq.cycleNumber

/-- The shots that the discarded cycle has run (R43). -/
def discardedShots (s : State) : Nat := if s.seq.state = .waitSync then 0 else s.seq.shotsRun

/-- ABORT stops the sequencer, and discards the cycle in progress if there is one (R43). -/
theorem abortSequencer_eq (s : State) :
    abortSequencer s =
      if InCycle s then discardCycle (discardedNumber s) (discardedShots s) (stopSequencer s) else stopSequencer s := by
  unfold abortSequencer
  split <;> next h => simp [InCycle, discardedNumber, discardedShots, h]

/-- The sequencer stopped, with its cycle discarded if there is one, before any report (R43, R109). -/
def sequencerAborted (s : State) : State :=
  { stopSequencer s with
    seq.flags := if InCycle s then { s.seq.flags with aborted := true } else s.seq.flags
    regs := if InCycle s then s.regs.map clearAccumulator else s.regs }

theorem abortSequencer_frame (s : State) :
    abortSequencer s = { sequencerAborted s with link := (abortSequencer s).link } := by
  rw [abortSequencer_eq]
  unfold sequencerAborted
  by_cases h : InCycle s
  · simp only [h, if_true, discardCycle]
    rw [raise_eq]
    rfl
  · simp only [h, if_false]
    rfl

/-- The report of a discarded cycle (R43, section 11.5.3). -/
def discardedReport (s : State) : List Byte :=
  le4 (discardedNumber s) ++ le1 (discardedShots s) ++ le2 s.seq.missedDuring ++
    [cycleFlagsByte { s.seq.flags with aborted := true }, lightsWhere fun l => (s.regs.get l).state == .stable,
     lightsWhere fun l => (s.regs.get l).state == .satHigh || (s.regs.get l).state == .satLow]

/-- Clearing the accumulators leaves the regulator states that CYCLE_DONE carries (R109). -/
theorem discardCycle_payload (s : State) :
    cycleDonePayload (discardedNumber s) (discardedShots s)
      (updateRegs clearAccumulator { stopSequencer s with seq.flags.aborted := true }) = discardedReport s := by
  simp only [cycleDonePayload, stableSet, saturatedSet, updateRegs, Octet.get_map]
  rfl

/-- CYCLE_DONE raised for a discarded cycle, if there is one (R43). -/
def discardReported (s : State) : State := if InCycle s then raise .cycleDone (discardedReport s) s else s

/-- ABORT reports a discarded cycle and nothing else at the sequencer (R43). -/
theorem abortSequencer_link (s : State) :
    (abortSequencer s).link = (discardReported s).link := by
  rw [abortSequencer_eq, discardReported]
  split
  · simp only [discardCycle, discardCycle_payload]
    exact raise_link_of_link _ _ rfl
  · rfl

/-! ### The run (R68) -/

/-- What going IDLE writes: the run state, and a report (R68 step 3). -/
theorem goIdle_frame (c : RunCause) (s : State) :
    goIdle c s = { s with run.state := .idle, link := (goIdle c s).link } := by
  unfold goIdle
  split
  · next h => rw [← h]
  · exact changeRun_eq _ _ _

/-- The part after ABORT, but for its reports: sequencer and run at rest (R43, R68). -/
def abortedPart (s : State) : State :=
  { sequencerAborted s with
    run := { s.run with state := .idle, pacer := none, encoder := s.run.setup.encoderSpan, delayLeft := 0,
                        afterLeft := 0, stopKind := .never } }

theorem abortRun_frame (s : State) : abortRun s = { abortedPart s with link := (abortRun s).link } := by
  unfold abortRun
  rw [goIdle_frame]
  simp only [stopRun]
  rw [abortSequencer_frame]
  rfl

/-- The report of a run that ABORT ends (R69). -/
def abortReport (s : State) : List Byte :=
  [0#8, runStateCode s.run.state, 8#8] ++ le4 s.seq.cycleNumber ++ le4 s.run.cycleCount ++ le4 s.run.missed ++ [0#8]

/-- ABORT raises its reports in this order: CYCLE_DONE, RUN_STATE (R68; log entry 16). -/
theorem abortRun_link (s : State) :
    (abortRun s).link =
      (if s.run.state = .idle then discardReported s
        else raise .runState (abortReport s) (discardReported s)).link := by
  have hrun : (stopRun (abortSequencer s)).run.state = s.run.state := by
    rw [abortSequencer_frame]
    rfl
  have hreport : runStatePayload .idle (stopRun (abortSequencer s)).run.state .abort (stopRun (abortSequencer s)) =
      abortReport s := by
    rw [abortSequencer_frame]
    rfl
  have hlink : (stopRun (abortSequencer s)).link = (discardReported s).link := abortSequencer_link s
  rw [abortRun, goIdle, hrun]
  split
  · exact hlink
  · rw [changeRun, hreport]
    exact raise_link_of_link _ _ hlink

/-- A regulator's accumulator is cleared exactly when a cycle is discarded (R109). -/
theorem abortedPart_regs (s : State) (l : Light) :
    (abortedPart s).regs.get l =
      if InCycle s then { s.regs.get l with sum := 0, count := 0, clipped := false } else s.regs.get l := by
  simp only [abortedPart, sequencerAborted]
  split
  · rw [Octet.get_map]
    rfl
  · rfl

theorem abortedPart_channel (s : State) (l : Light) :
    (abortedPart s).lights.channels.get l = { s.lights.channels.get l with firing := none } :=
  Octet.get_map channelOff s.lights.channels l

/-- ABORT acts in a run and with a test shot in flight, and nowhere else (R68). -/
theorem takeAbort_nil (s : State) :
    takeAbort [] s =
      if s.run.state ≠ .idle ∨ s.seq.state = .testing then accept (abortRun s) [] else accept s [] := rfl

/-- Settles O43: the state after ABORT by `abortRun_frame`, its reports by `abortRun_link`. -/
theorem abortEndsEverything : Obligations.AbortEndsEverything := by
  intro tag s hready
  rw [abort_ready hready, takeAbort_nil]
  refine ⟨fun hidle htest => ?_, fun hacts => ?_⟩
  · rw [if_neg (by tauto)]
    rfl
  · have ⟨hout, _⟩ := hready
    obtain ⟨link, hframe, hlink⟩ : ∃ link, abortRun s = { abortedPart s with link := link } ∧ link = _ :=
      ⟨_, abortRun_frame s, abortRun_link s⟩
    rw [if_pos hacts, hframe]
    exact ⟨{ abortedPart s with link := link }, rfl, rfl, rfl, rfl, rfl, rfl, hout, rfl, rfl, rfl, rfl,
      abortedPart_channel s, rfl, rfl, abortedPart_regs s, hlink⟩

end Sys2Proof.RunControlProofs
end

section
/-!
PROOFS. LOCK_SETUP (04_line_lock.md): what its bytes decode to, and what the command does.
-/

namespace Sys2Proof.LineLockProofs

open Sys2Proof.Machine Sys2Proof.Safety Sys2Proof.ShotTableProofs Sys2Proof.RunControlProofs

/-! ### The bytes of a lock setup (R71, R183) -/

/-- The ranges that LOCK_SETUP allows (R71). -/
abbrev LockAllowed (u : LockSetup) : Prop := 1 ≤ u.timeout ∧ u.timeout ≤ 200 ∧ u.phase ≤ 100000

theorem lockInRange_iff (u : LockSetup) :
    (decide (1 ≤ u.timeout) && decide (u.timeout ≤ 200) && decide (u.phase ≤ 100000)) = true ↔ LockAllowed u := by
  simp [and_assoc]

theorem length_lockSetupBytes (u : LockSetup) : (lockSetupBytes u).length = 7 := rfl

/-- Each offset of a lock setup's bytes reads back the number written there. -/
theorem lockSetupBytes_numbers {u : LockSetup} (htimeout : u.timeout < 256) (hphase : u.phase < 4294967296) :
    byteAt (lockSetupBytes u) 2 = u.timeout ∧ word32At (lockSetupBytes u) 3 = u.phase := by
  unfold lockSetupBytes
  rw [le4_eq]
  exact ⟨byteAt_le1 htimeout [], word32At_le4 hphase rfl rfl rfl rfl⟩

/-- The two encoded offsets of a lock setup's bytes decode to the values written there. -/
theorem lockSetupBytes_encodings (u : LockSetup) :
    boolOf (byteAt (lockSetupBytes u) 0) = some u.enable ∧
    polarityOf (byteAt (lockSetupBytes u) 1) = some u.polarity :=
  ⟨boolOf_code _, polarityOf_code _⟩

/-- LOCK_SETUP decodes the setup whose bytes it carries, and refuses one that is not allowed (R71). -/
theorem parseLockSetup_bytes {u : LockSetup} (htimeout : u.timeout < 256) (hphase : u.phase < 4294967296) :
    parseLockSetup (lockSetupBytes u) = if LockAllowed u then .ok u else .error .badValue := by
  obtain ⟨hreadTimeout, hreadPhase⟩ := lockSetupBytes_numbers htimeout hphase
  obtain ⟨henable, hpolarity⟩ := lockSetupBytes_encodings u
  rw [parseLockSetup, henable, hpolarity, hreadTimeout, hreadPhase]
  by_cases hok : LockAllowed u
  · have hrange := (lockInRange_iff u).mpr hok
    rw [hrange, if_pos hok]
    exact sized_some (length_lockSetupBytes u) u
  · have hrange := Bool.eq_false_iff.mpr (mt (lockInRange_iff u).mp hok)
    rw [hrange, if_neg hok]
    exact sized_none (length_lockSetupBytes u)

/-- An undefined encoding is BAD_VALUE (R71). -/
theorem parseLockSetup_undefined {b : List Byte} (hlen : b.length = 7) (h : 2 ≤ byteAt b 0 ∨ 2 ≤ byteAt b 1) :
    parseLockSetup b = .error .badValue := by
  have hnone : boolOf (byteAt b 0) = none ∨ polarityOf (byteAt b 1) = none := h.imp boolOf_none polarityOf_none
  unfold parseLockSetup
  split
  · simp_all
  · exact sized_none hlen

/-! ### LOCK_SETUP (R71) -/

theorem lockSetup_ready {tag : Byte} {b : List Byte} {s : State} (h : Ready s) (hlen : b.length = 7) :
    exec (.lockSetup tag b) s =
      .next (replied 0xA8#8 tag (takeLockSetup b s).reply (takeLockSetup b s).state) :=
  hostCommand_unstageable h (by omega) rfl

theorem takeLockSetup_refused {b : List Byte} {st : Status} (s : State) (h : parseLockSetup b = .error st) :
    takeLockSetup b s = refuse st s := by
  simp [takeLockSetup, h]

theorem takeLockSetup_held {b : List Byte} {u : LockSetup} {s : State} (h : parseLockSetup b = .ok u)
    (hheld : s.seq.state = .waitSync) : takeLockSetup b s = refuse .busy s := by
  simp [takeLockSetup, h, hheld]

theorem takeLockSetup_stored {b : List Byte} {u : LockSetup} {s : State} (h : parseLockSetup b = .ok u)
    (hfree : s.seq.state ≠ .waitSync) :
    takeLockSetup b s = accept (putLockSetup u s)
      (lockSetupBytes (putLockSetup u s).lock.setup ++ [boolCode (putLockSetup u s).lock.syncOk]) := by
  simp [takeLockSetup, h, hfree]

/-- Turning the lock off clears `sync_ok` and stops the watch (R71). -/
theorem putLockSetup_off {u : LockSetup} {s : State} (hon : s.lock.setup.enable = true) (hoff : u.enable = false) :
    putLockSetup u s = { s with lock.setup := u, lock.syncOk := false, lock.watch := none } :=
  if_pos ⟨hon, hoff⟩

/-- Any other LOCK_SETUP stores its fields and nothing else (R71). -/
theorem putLockSetup_stays {u : LockSetup} {s : State} (h : s.lock.setup.enable = false ∨ u.enable = true) :
    putLockSetup u s = { s with lock.setup := u } :=
  if_neg (by rintro ⟨hon, hoff⟩; simp [hon, hoff] at h)

/-- Settles O45: the undefined encodings, then a whole setup by R71's checks. -/
theorem lockSetupStored : Obligations.LockSetupStored := by
  refine ⟨fun tag b s hready hlen hbad => ?_, fun tag u s hready htimeout hphase => ?_⟩
  · rw [lockSetup_ready hready hlen, takeLockSetup_refused s (parseLockSetup_undefined hlen hbad)]
    rfl
  · have htaken : exec (.lockSetup tag (lockSetupBytes u)) s = .next (replied 0xA8#8 tag
        (takeLockSetup (lockSetupBytes u) s).reply (takeLockSetup (lockSetupBytes u) s).state) :=
      lockSetup_ready hready (length_lockSetupBytes u)
    have hparsed := parseLockSetup_bytes htimeout hphase
    refine ⟨fun hallowed hfree => ⟨fun hon hoff => ?_, fun hstays => ?_⟩, fun hallowed hheld => ?_,
      fun hrefused => ?_⟩
    · rw [if_pos hallowed] at hparsed
      refine htaken.trans ?_
      rw [takeLockSetup_stored hparsed hfree, putLockSetup_off hon hoff]
      rfl
    · rw [if_pos hallowed] at hparsed
      refine htaken.trans ?_
      rw [takeLockSetup_stored hparsed hfree, putLockSetup_stays hstays]
      rfl
    · rw [if_pos hallowed] at hparsed
      refine htaken.trans ?_
      rw [takeLockSetup_held hparsed hheld]
      rfl
    · rw [if_neg hrefused] at hparsed
      refine htaken.trans ?_
      rw [takeLockSetup_refused s hparsed]
      rfl

end Sys2Proof.LineLockProofs
end

section
/-!
PROOFS. The sync watch and the hold (04_line_lock.md): an edge of SYNC, the watch's expiry and the end of the phase
delay, and the cycle begin that each of them may release (02_shot_execution_and_sensing.md section 2.2).
-/

namespace Sys2Proof.LineLockProofs

open Sys2Proof.Machine Sys2Proof.Safety Sys2Proof.ShotProofs Sys2Proof.RunProofs Sys2Proof.RunControlProofs

/-! ### The events at a Resting part -/

theorem exec_syncEdge {d : Polarity} {s : State} (h : Resting s) :
    exec (.syncEdge d) s = .next (startSend (syncEdge d s)) :=
  event_resting h (syncEdge_untouched d s)

theorem exec_watchExpiry {s : State} (h : Resting s) : exec .watchExpiry s = .next (startSend (watchExpiry s)) :=
  event_resting h (watchExpiry_untouched s)

theorem exec_phaseDelayEnd {s : State} (h : Resting s) :
    exec .phaseDelayEnd s = .next (startSend (phaseDelayEnd s)) :=
  event_resting h (phaseDelayEnd_untouched s)

/-! ### Edges of SYNC (R72, R76) -/

theorem syncTaken_iff (d : Polarity) (s : State) :
    syncTaken d s = true ↔ s.lock.setup.enable = true ∧ s.supply.mode = .operate ∧ d = s.lock.setup.polarity := by
  simp [syncTaken, and_assoc]

/-- An edge of the wrong direction, with the lock off or outside OPERATE, does nothing (R72). -/
theorem syncEdge_ignored {d : Polarity} {s : State}
    (h : s.lock.setup.enable = false ∨ s.supply.mode ≠ .operate ∨ d ≠ s.lock.setup.polarity) :
    syncEdge d s = s := by
  have hnot : ¬ syncTaken d s = true := by
    rw [syncTaken_iff]
    rintro ⟨hon, hmode, hdir⟩
    simp [hon, hmode, hdir] at h
  exact if_neg hnot

theorem syncEdge_taken {s : State} (hon : s.lock.setup.enable = true) (hmode : s.supply.mode = .operate) :
    syncEdge s.lock.setup.polarity s = releaseByEdge (restartWatch s) :=
  if_pos ((syncTaken_iff _ s).mpr ⟨hon, hmode, rfl⟩)

@[simp] theorem changeSync_lock (ok : Bool) (s : State) : (changeSync ok s).lock = { s.lock with syncOk := ok } := by
  simp [changeSync]

/-- After the watch's restart the part has sync, with the same setup and hold (R72). -/
theorem restartWatch_lock (s : State) :
    (restartWatch s).lock = { s.lock with watch := some (s.lock.setup.timeout * 1000), syncOk := true } := by
  simp only [restartWatch]
  split
  · next hsync => rw [← hsync]
  · exact changeSync_lock _ _

/-- An edge leaves alone a hold that does not wait for one (R76). -/
theorem releaseByEdge_other {s : State} (h : s.lock.hold ≠ .edge) : releaseByEdge s = s := by
  cases hhold : s.lock.hold with
  | edge => exact absurd hhold h
  | phase _ | none => simp [releaseByEdge, hhold]

/-- The edge that a hold waits for starts the phase delay, or begins the cycle when there is none (R76). -/
theorem releaseByEdge_held {s : State} (h : s.lock.hold = .edge) :
    releaseByEdge s =
      if 0 < s.lock.setup.phase then { s with lock.hold := .phase s.lock.setup.phase }
      else cycleBegin { s with lock.hold := .none } := by
  simp [releaseByEdge, h]

/-- The same for the hold and the phase as they stood before the edge restarted the watch (R72, R76). -/
theorem releaseByEdge_restartWatch {s : State} (h : s.lock.hold = .edge) :
    releaseByEdge (restartWatch s) =
      if 0 < s.lock.setup.phase then { restartWatch s with lock.hold := .phase s.lock.setup.phase }
      else cycleBegin { restartWatch s with lock.hold := .none } := by
  have hhold : (restartWatch s).lock.hold = .edge := by rw [restartWatch_lock]; exact h
  have hsetup : (restartWatch s).lock.setup = s.lock.setup := by rw [restartWatch_lock]
  rw [releaseByEdge_held hhold, hsetup]

/-! ### The watch's expiry (R73, R77) -/

theorem watchExpiry_stopped {s : State} (h : s.lock.watch = none) : watchExpiry s = s := by
  simp [watchExpiry, h]

/-- Sync lost: the watch stopped, `sync_ok` cleared with its report (R73). -/
def syncLost (s : State) : State := changeSync false { s with lock.watch := none }

@[simp] theorem syncLost_hold (s : State) : (syncLost s).lock.hold = s.lock.hold := by
  simp [syncLost]

theorem watchExpiry_running {s : State} (h : s.lock.watch ≠ none) :
    watchExpiry s = releaseUnlocked (syncLost s) := by
  unfold watchExpiry
  split
  · rfl
  · next hnone => exact absurd hnone h

theorem releaseUnlocked_free {s : State} (h : s.lock.hold = .none) : releaseUnlocked s = s := by
  simp [releaseUnlocked, h]

/-- A held cycle begins UNLOCKED, whether it waits for an edge or its phase delay runs (R77). -/
theorem releaseUnlocked_held {s : State} (h : s.lock.hold ≠ .none) :
    releaseUnlocked s = cycleBegin { s with seq.flags.unlocked := true, lock.hold := .none } := by
  cases hhold : s.lock.hold with
  | none => exact absurd hhold h
  | edge | phase _ => simp [releaseUnlocked, hhold]

/-! ### The end of the phase delay (R76) -/

theorem phaseDelayEnd_running {n : Nat} {s : State} (h : s.lock.hold = .phase n) :
    phaseDelayEnd s = cycleBegin { s with lock.hold := .none } := by
  simp [phaseDelayEnd, h]

theorem phaseDelayEnd_idle {s : State} (h : ∀ n, s.lock.hold ≠ .phase n) : phaseDelayEnd s = s := by
  cases hhold : s.lock.hold with
  | phase n => exact absurd hhold (h n)
  | edge | none => simp [phaseDelayEnd, hhold]

/-! ### Cycle begin (R23, R24, R138) -/

/-- The first shot of a cycle put into LEAD at entry `e` of `seq_start` (R23, R24). -/
def firstLead (e : ShotEntry) (s : State) : State :=
  { s with
    seq.state := .shooting
    seq.shot := some (leadShot s.table.seqStart e false)
    seq.cursor := s.table.seqStart
    seq.lastEntry := isLastEntry s.table s.table.seqStart e
    seq.cameras := e.cameras
    seq.aux := e.aux }

theorem firstShot_defined {e : ShotEntry} {s : State} (he : s.table.entries[s.table.seqStart]? = some e) :
    firstShot s = leadPassed e (firstLead e s) :=
  startShot_defined he

/-- A cycle begin starts the shot at the `seq_start` that its due banks leave (R23, R138). -/
theorem cycleBegin_defined {e : ShotEntry} {s t : State} (ht : applyDueBanks (numbered s) = t)
    (he : t.table.entries[t.table.seqStart]? = some e) : cycleBegin s = leadPassed e (firstLead e t) := by
  rw [cycleBegin_eq, ht, firstShot_defined he]

/-- The due banks leave an entry at `seq_start` when there was one (R10, R138). -/
theorem applyDueBanks_entry_defined {s : State} (h : s.table.seqStart < s.table.count) :
    ∃ e, (applyDueBanks s).table.entries[(applyDueBanks s).table.seqStart]? = some e :=
  ⟨_, List.getElem?_eq_getElem ((Undisturbed.applyDueBanks s).start h)⟩

/-- With no bank due a cycle begin numbers the cycle and starts its first shot (R23, R24). -/
theorem cycleBegin_noBank {e : ShotEntry} {s : State} (hdue : NothingDue s)
    (he : s.table.entries[s.table.seqStart]? = some e) :
    cycleBegin s = leadPassed e (firstLead e (numbered s)) :=
  cycleBegin_defined (applyDueBanks_nothing hdue) he

/-- Settles O46: each event by the lock, the watch and the hold it finds, and the cycle begin it may release. -/
theorem syncWatchAndHold : Obligations.SyncWatchAndHold := by
  intro s hrest
  refine ⟨fun d hignored => ?_, fun hon hmode => ⟨fun hother => ?_, fun hheld hphase => ?_, fun hheld hphase => ?_⟩,
    fun hstopped => ?_, fun hruns hfree => ?_, fun hruns hheld => ?_, fun n hphase => ?_, fun hnone => ?_,
    ⟨?_, fun e he => ?_⟩, fun e hdue he => ?_⟩
  · rw [exec_syncEdge hrest, syncEdge_ignored hignored, startSend_silent hrest rfl]
  · have hkept : (restartWatch s).lock.hold ≠ .edge := by rw [restartWatch_lock]; exact hother
    rw [exec_syncEdge hrest, syncEdge_taken hon hmode, releaseByEdge_other hkept]
    rfl
  · rw [exec_syncEdge hrest, syncEdge_taken hon hmode, releaseByEdge_restartWatch hheld, if_pos hphase]
    rfl
  · rw [exec_syncEdge hrest, syncEdge_taken hon hmode, releaseByEdge_restartWatch hheld, if_neg (by omega)]
    rfl
  · rw [exec_watchExpiry hrest, watchExpiry_stopped hstopped, startSend_silent hrest rfl]
  · rw [exec_watchExpiry hrest, watchExpiry_running hruns, releaseUnlocked_free (by simpa using hfree)]
    rfl
  · rw [exec_watchExpiry hrest, watchExpiry_running hruns, releaseUnlocked_held (by simpa using hheld)]
    rfl
  · rw [exec_phaseDelayEnd hrest, phaseDelayEnd_running hphase]
  · rw [exec_phaseDelayEnd hrest, phaseDelayEnd_idle hnone, startSend_silent hrest rfl]
  · exact applyDueBanks_entry_defined (s := numbered s)
  · exact cycleBegin_defined rfl he
  · exact cycleBegin_noBank hdue he

end Sys2Proof.LineLockProofs
end

section
/-!
PROOFS. Figures and the cycle-close step (05_level_regulators.md sections 5.2 and 5.3): what a figure input and a clip
notice make of a regulator, and the step by the band, the state and the place of the actuators.
-/

namespace Sys2Proof.RegulatorProofs

open Sys2Proof.Machine

/-! ### Figures and clip notices (R84 to R87) -/

/-- The sum of the four weights (R85). -/
def totalWeight (w : Quad Nat) : Nat := w.q0 + w.q1 + w.q2 + w.q3

/-- The sum of the corrected readings, each by its weight (R85). -/
def weightedSum (w readings baselines : Quad Nat) : Nat :=
  w.q0 * (readings.q0 - baselines.q0) + w.q1 * (readings.q1 - baselines.q1) +
  w.q2 * (readings.q2 - baselines.q2) + w.q3 * (readings.q3 - baselines.q3)

theorem figureOf_unweighted {w readings baselines : Quad Nat} (h : totalWeight w = 0) :
    figureOf w readings baselines = none :=
  if_pos h

theorem figureOf_weighted {w readings baselines : Quad Nat} (h : 0 < totalWeight w) :
    figureOf w readings baselines = some (weightedSum w readings baselines / totalWeight w) :=
  if_neg h.ne'

theorem takeFigure_off {readings baselines : Quad Nat} {r : Regulator} (h : r.mode = .off) :
    takeFigure readings baselines r = r :=
  if_pos h

theorem takeFigure_unweighted {readings baselines : Quad Nat} {r : Regulator}
    (h : totalWeight r.bands.weights = 0) : takeFigure readings baselines r = r := by
  simp [takeFigure, figureOf_unweighted h]

/-- A figure that is formed is accumulated and is the last one (R86). -/
theorem takeFigure_weighted {readings baselines : Quad Nat} {r : Regulator} (hon : r.mode ≠ .off)
    (h : 0 < totalWeight r.bands.weights) :
    takeFigure readings baselines r =
      let figure := weightedSum r.bands.weights readings baselines / totalWeight r.bands.weights
      { r with sum := r.sum + figure, count := r.count + 1, lastFigure := some figure } := by
  simp [takeFigure, hon, figureOf_weighted h]

/-- A weighted mean is at most a bound of what it is taken over (R85). -/
theorem weightedMean_le {w readings baselines : Quad Nat} {top : Nat} (h : ∀ i, readings.get i ≤ top) :
    weightedSum w readings baselines / totalWeight w ≤ top := by
  have term (i : Fin 4) : w.get i * (readings.get i - baselines.get i) ≤ w.get i * top :=
    Nat.mul_le_mul_left _ ((Nat.sub_le _ _).trans (h i))
  have hsum : weightedSum w readings baselines ≤ totalWeight w * top :=
    calc weightedSum w readings baselines
        ≤ w.q0 * top + w.q1 * top + w.q2 * top + w.q3 * top :=
          add_le_add (add_le_add (add_le_add (term 0) (term 1)) (term 2)) (term 3)
      _ = totalWeight w * top := by simp only [totalWeight, add_mul]
  exact Nat.div_le_of_le_mul hsum

/-- Settles O50: a figure input and a clip notice by the regulator's mode and its weights. -/
theorem figureFormed : Obligations.FigureFormed := by
  intro readings baselines r
  refine ⟨fun hoff => ⟨takeFigure_off hoff, if_pos hoff⟩, fun hon => ⟨takeFigure_unweighted,
    takeFigure_weighted hon, if_neg hon⟩, fun _ => weightedMean_le⟩

/-! ### When a regulator steps, and which way (R88, R89, R90) -/

theorem closeRegulator_still {r : Regulator} (h : r.mode ≠ .auto ∨ r.count = 0) :
    closeRegulator r = clearAccumulator r := by
  have hno : ¬(r.mode = .auto ∧ 0 < r.count) := by rintro ⟨hauto, hcount⟩; exact h.elim (· hauto) hcount.ne'
  rw [closeRegulator, if_neg hno]

theorem closeRegulator_steps {r : Regulator} (hauto : r.mode = .auto) (hcount : 0 < r.count) :
    closeRegulator r = clearAccumulator (stepOn r (r.sum / r.count)) := by
  rw [closeRegulator, if_pos ⟨hauto, hcount⟩]

/-- The bound below which a regulator is too dim: the wider one while it is STABLE (R90). -/
def lowBound (r : Regulator) : Nat := if r.state = .stable then r.bands.leaveLow else r.bands.enterLow

/-- The bound above which a regulator is too bright: the wider one while it is STABLE (R90). -/
def highBound (r : Regulator) : Nat := if r.state = .stable then r.bands.leaveHigh else r.bands.enterHigh

/-- Ordered bounds leave no figure both too dim and too bright (R104). -/
theorem lowBound_le_highBound {r : Regulator} (h : bandsValid r.bands = true) : lowBound r ≤ highBound r := by
  simp only [bandsValid, Bool.and_eq_true, decide_eq_true_eq] at h
  unfold lowBound highBound
  split <;> omega

/-- The two tables of R90, for a STABLE regulator and for any other, as one decision on the bounds of its state. -/
theorem stepOn_eq (r : Regulator) (f : Nat) :
    stepOn r f =
      if f < lowBound r then brighterStep r f
      else if highBound r < f then darkerStep r f
      else { r with state := .stable } := by
  unfold stepOn lowBound highBound
  by_cases h : r.state = .stable
  · have hstays : { r with state := .stable } = r := by rw [← h]
    simp only [h, if_true, hstays]
  · simp only [h, if_false]

theorem stepOn_dim {r : Regulator} {f : Nat} (h : f < lowBound r) : stepOn r f = brighterStep r f := by
  rw [stepOn_eq, if_pos h]

theorem stepOn_inBand {r : Regulator} {f : Nat} (hlow : lowBound r ≤ f) (hhigh : f ≤ highBound r) :
    stepOn r f = { r with state := .stable } := by
  rw [stepOn_eq, if_neg hlow.not_gt, if_neg hhigh.not_gt]

theorem stepOn_bright {r : Regulator} {f : Nat} (hbands : bandsValid r.bands = true) (h : highBound r < f) :
    stepOn r f = darkerStep r f := by
  rw [stepOn_eq, if_neg ((lowBound_le_highBound hbands).trans h.le).not_gt, if_pos h]

/-! ### The brighter step (R91, R94, R96) -/

/-- No brighter step is possible: a clip was noticed, or both actuators are at their ceilings (R91). -/
abbrev SaturatedHigh (r : Regulator) : Prop :=
  r.clipped = true ∨ (r.duration = r.limits.durCeiling ∧ r.current = r.limits.curCeiling)

theorem not_saturatedHigh {r : Regulator} (hclip : r.clipped = false)
    (hroom : r.duration ≠ r.limits.durCeiling ∨ r.current ≠ r.limits.curCeiling) : ¬SaturatedHigh r := by
  rintro (hclipped | ⟨hdur, hcur⟩)
  · exact Bool.false_ne_true (hclip.symm.trans hclipped)
  · exact hroom.elim (· hdur) (· hcur)

theorem brighterStep_saturated {r : Regulator} {f : Nat} (h : SaturatedHigh r) :
    brighterStep r f = { r with state := .satHigh } :=
  if_pos h

theorem brighterStep_fast {r : Regulator} {f : Nat} (h : ¬SaturatedHigh r) (hfixed : r.limits.ratio = 0)
    (hfar : f < r.bands.fastLow) : brighterStep r f = { fastBrighter r with state := .converging } := by
  rw [brighterStep, if_neg h, if_pos ⟨hfixed, hfar⟩]

theorem brighterStep_normal {r : Regulator} {f : Nat} (h : ¬SaturatedHigh r)
    (hnear : r.limits.ratio ≠ 0 ∨ r.bands.fastLow ≤ f) :
    brighterStep r f = { normalBrighter r f with state := .converging } := by
  rw [brighterStep, if_neg h, if_neg (by omega)]

theorem fastBrighter_duration {r : Regulator} (h : r.duration < r.limits.durCeiling) :
    fastBrighter r = { r with duration := min (2 * r.duration) r.limits.durCeiling } :=
  if_pos h

theorem fastBrighter_current {r : Regulator} (h : r.limits.durCeiling ≤ r.duration) :
    fastBrighter r =
      { r with current := min (if r.current = 0 then r.limits.curStep else 2 * r.current) r.limits.curCeiling } :=
  if_neg h.not_gt

/-- Gain insertion (R96 case 1): the duration is below its ceiling and below sixteen bands, and the current has room. -/
theorem gainInsertion_iff (r : Regulator) : gainInsertion r = true ↔
    r.duration < r.limits.durCeiling ∧ 0 < r.limits.bandStep ∧ r.duration < 16 * r.limits.bandStep ∧
    r.current < r.limits.curCeiling := by
  simp only [gainInsertion, Bool.and_eq_true, decide_eq_true_eq, and_assoc, Nat.mul_comm]

theorem normalBrighter_inserted {r : Regulator} {f : Nat} (h : gainInsertion r = true) :
    normalBrighter r f =
      { r with current := min (r.current + multiplier r f * r.limits.curStep) r.limits.curCeiling } :=
  if_pos h

theorem normalBrighter_duration {r : Regulator} {f : Nat} (hgain : ¬gainInsertion r = true)
    (h : r.duration < r.limits.durCeiling) :
    normalBrighter r f =
      { r with duration := min (r.duration + multiplier r f * durIncrement r.limits) r.limits.durCeiling } := by
  rw [normalBrighter, if_neg hgain, if_pos h]

theorem normalBrighter_current {r : Regulator} {f : Nat} (h : r.limits.durCeiling ≤ r.duration) :
    normalBrighter r f =
      { r with current := min (r.current + multiplier r f * r.limits.curStep) r.limits.curCeiling } := by
  have hgain : ¬gainInsertion r = true := fun hg => h.not_gt ((gainInsertion_iff r).mp hg).1
  rw [normalBrighter, if_neg hgain, if_neg h.not_gt]

/-! ### The darker step (R92, R95, R97) -/

theorem darkerStep_saturated {r : Regulator} {f : Nat} (hdur : r.duration = r.limits.durMin)
    (hcur : r.current = r.limits.curFloor) : darkerStep r f = { r with state := .satLow } :=
  if_pos ⟨hdur, hcur⟩

theorem darkerStep_fast {r : Regulator} {f : Nat}
    (hroom : r.duration ≠ r.limits.durMin ∨ r.current ≠ r.limits.curFloor) (hfixed : r.limits.ratio = 0)
    (hfar : r.bands.fastHigh < f) : darkerStep r f = { fastDarker r with state := .converging } := by
  rw [darkerStep, if_neg (by omega), if_pos ⟨hfixed, hfar⟩]

theorem darkerStep_normal {r : Regulator} {f : Nat}
    (hroom : r.duration ≠ r.limits.durMin ∨ r.current ≠ r.limits.curFloor)
    (hnear : r.limits.ratio ≠ 0 ∨ f ≤ r.bands.fastHigh) :
    darkerStep r f = { normalDarker r f with state := .converging } := by
  rw [darkerStep, if_neg (by omega), if_neg (by omega)]

theorem fastDarker_current {r : Regulator} (h : r.limits.curFloor < r.current) :
    fastDarker r = { r with current := max (r.current / 2) r.limits.curFloor } :=
  if_pos h

theorem fastDarker_duration {r : Regulator} (h : r.current ≤ r.limits.curFloor) :
    fastDarker r = { r with duration := max (halvedDuration r) r.limits.durMin } :=
  if_neg h.not_gt

theorem normalDarker_current {r : Regulator} {f : Nat} (h : r.limits.curFloor < r.current) :
    normalDarker r f =
      { r with current := max (r.current - multiplier r f * r.limits.curStep) r.limits.curFloor } :=
  if_pos h

theorem normalDarker_duration {r : Regulator} {f : Nat} (h : r.current ≤ r.limits.curFloor) :
    normalDarker r f =
      { r with duration := max (r.duration - multiplier r f * durIncrement r.limits) r.limits.durMin } :=
  if_neg h.not_gt

/-! ### The step, whole -/

/-- Settles O51: whether the regulator steps, then the band of its mean, then the place of its actuators. -/
theorem closeStepDecides : Obligations.CloseStepDecides := by
  intro r hbands
  refine ⟨closeRegulator_still, fun hauto hcount => ⟨fun hlow hhigh => ?inBand, fun hdim => ?dim,
    fun hbright => ?bright⟩⟩
  all_goals rw [closeRegulator_steps hauto hcount]
  case inBand =>
    rw [stepOn_inBand hlow hhigh]
    rfl
  case dim =>
    rw [stepOn_dim hdim]
    refine ⟨fun hsat => ?_, fun hclip hroom => ?_⟩
    · rw [brighterStep_saturated hsat]
      rfl
    have hopen := not_saturatedHigh hclip hroom
    refine ⟨fun hfixed hfar => ?_, fun hnear => ?_⟩
    · rw [brighterStep_fast hopen hfixed hfar]
      refine ⟨fun hbelow => ?_, fun htop => ?_⟩
      · rw [fastBrighter_duration hbelow]
        rfl
      · rw [fastBrighter_current htop]
        rfl
    · rw [brighterStep_normal hopen hnear]
      refine ⟨fun hbelow hbanded hshort hcur => ?_, fun hbelow hno => ?_, fun htop => ?_⟩
      · rw [normalBrighter_inserted ((gainInsertion_iff r).mpr ⟨hbelow, hbanded, hshort, hcur⟩)]
        rfl
      · rw [normalBrighter_duration (by rw [gainInsertion_iff]; omega) hbelow]
        rfl
      · rw [normalBrighter_current htop]
        rfl
  case bright =>
    rw [stepOn_bright hbands hbright]
    refine ⟨fun hdur hcur => ?_, fun hroom => ⟨fun hfixed hfar => ?_, fun hnear => ?_⟩⟩
    · rw [darkerStep_saturated hdur hcur]
      rfl
    · rw [darkerStep_fast hroom hfixed hfar]
      refine ⟨fun hcur => ?_, fun hcur => ?_⟩
      · rw [fastDarker_current hcur]
        rfl
      · rw [fastDarker_duration hcur]
        rfl
    · rw [darkerStep_normal hroom hnear]
      refine ⟨fun hcur => ?_, fun hcur => ?_⟩
      · rw [normalDarker_current hcur]
        rfl
      · rw [normalDarker_duration hcur]
        rfl

end Sys2Proof.RegulatorProofs
end

section
/-!
PROOFS. The commands of the Level Regulator Bank and the readers of a light's records (05_level_regulators.md section
5.4): what each payload decodes to, what each command does when a Ready part takes it, and the settled statements.
-/

namespace Sys2Proof.RegulatorProofs

open Sys2Proof.Machine Sys2Proof.Safety Sys2Proof.ShotTableProofs Sys2Proof.RunControlProofs

/-! ### Payloads that begin with a light (R98, R183) -/

/-- A payload that begins with a light's byte names that light (R183). -/
theorem lightAt_code (l : Light) (p : List Byte) : lightOf (byteAt (lightCode l :: p) 0) = some l := by
  simp [byteAt, lightCode]

/-- A first byte from 8 up names no light (R183). -/
theorem lightAt_none {x : Byte} (h : 8 ≤ x.toNat) (p : List Byte) : lightOf (byteAt (x :: p) 0) = none :=
  lightOf_none h

theorem regModeOf_code (m : RegMode) : regModeOf (regModeCode m).toNat = some m := by cases m <;> rfl

/-- A number from 3 up is no regulator mode (R183). -/
theorem regModeOf_none {n : Nat} (h : 3 ≤ n) : regModeOf n = none := by
  match n, h with
  | _ + 3, _ => rfl

/-- A 1-byte field is read back from its byte. -/
theorem byteAt_of_getD {b : List Byte} {i n : Nat} (hn : n < 256) (h : b.getD i 0#8 = BitVec.ofNat 8 n) :
    byteAt b i = n := by
  rw [byteAt, h, BitVec.toNat_ofNat, Nat.mod_eq_of_lt hn]

/-- A payload of the right length gives its value when the check holds, and is BAD_VALUE otherwise (R162). -/
theorem sized_checked {α : Type} {n : Nat} {p : List Byte} (h : p.length = n) (ok : Bool) (a : α) :
    sized n p (checked ok a) = if ok = true then .ok a else .error .badValue := by
  cases ok with
  | true => exact sized_some h a
  | false => exact sized_none h

/-- A stageable command, taken by a Ready part with no bank OPEN (R161). -/
theorem hostCommand_noOpen {c : Command} {tag : Byte} {p : List Byte} {s : State} (h : Ready s) (hn : NoOpen s)
    (hp : p.length ≤ 250) :
    hostCommand c tag p s =
      .next (replied (replyCode (commandCode c)) tag (executeDirect c p s).reply (executeDirect c p s).state) := by
  rw [hostCommand_ready h hp, executeCommand_noOpen hn]

/-! ### REG_MODE (R101, R102) -/

theorem parseRegMode_code (l : Light) (m : RegMode) : parseRegMode [lightCode l, regModeCode m] = .ok (l, m) := by
  have hmode : regModeOf (byteAt [lightCode l, regModeCode m] 1) = some m := regModeOf_code m
  rw [parseRegMode, lightAt_code, hmode]
  rfl

/-- A light number from 8 up or a mode number from 3 up is BAD_VALUE (R98, R101). -/
theorem parseRegMode_undefined {x m : Byte} (h : 8 ≤ x.toNat ∨ 3 ≤ m.toNat) :
    parseRegMode [x, m] = .error .badValue := by
  have hnone : lightOf (byteAt [x, m] 0) = none ∨ regModeOf (byteAt [x, m] 1) = none :=
    h.imp lightOf_none regModeOf_none
  unfold parseRegMode
  split
  · simp_all
  · rfl

theorem regMode_ready {tag x m : Byte} {s : State} (h : Ready s) (hn : NoOpen s) :
    exec (.regMode tag [x, m]) s =
      .next (replied 0xB0#8 tag (takeRegMode [x, m] s).reply (takeRegMode [x, m] s).state) :=
  hostCommand_noOpen h hn (show 2 ≤ 250 by omega)

theorem putRegMode_regs (l : Light) (m : RegMode) (s : State) :
    (putRegMode l m s).regs = s.regs.set l (withMode m (s.regs.get l)) := by
  unfold putRegMode
  simp only
  split <;> rfl

theorem putRegMode_off (l : Light) (s : State) :
    putRegMode l .off s = lightOff l (updateReg l (withMode .off) s) := rfl

theorem putRegMode_on {m : RegMode} (h : m ≠ .off) (l : Light) (s : State) :
    putRegMode l m s = updateReg l (withMode m) s :=
  if_neg h

/-- REG_MODE of a light and a mode answers the record's new mode and state (R99, R101). -/
theorem takeRegMode_code (l : Light) (m : RegMode) (s : State) :
    takeRegMode [lightCode l, regModeCode m] s =
      accept (putRegMode l m s) [lightCode l, regModeCode (withMode m (s.regs.get l)).mode,
        regStateCode (withMode m (s.regs.get l)).state] := by
  simp [takeRegMode, parseRegMode_code, putRegMode_regs]

theorem takeRegMode_undefined {x m : Byte} (h : 8 ≤ x.toNat ∨ 3 ≤ m.toNat) (s : State) :
    takeRegMode [x, m] s = refuse .badValue s := by
  simp [takeRegMode, parseRegMode_undefined h]

/-- REG_MODE of a light and a mode, at a Ready part with no bank OPEN (R99, R101). -/
theorem exec_regMode {s : State} (h : Ready s) (hn : NoOpen s) (tag : Byte) (l : Light) (m : RegMode) :
    exec (.regMode tag [lightCode l, regModeCode m]) s =
      .next (replied 0xB0#8 tag [0#8, lightCode l, regModeCode (withMode m (s.regs.get l)).mode,
        regStateCode (withMode m (s.regs.get l)).state] (putRegMode l m s)) := by
  rw [regMode_ready h hn, takeRegMode_code]
  rfl

/-! ### REG_FORCE (R103) -/

/-- The actuators that REG_FORCE takes under the limits in force (R103 checks 2 and 3). -/
abbrev ForceAllowed (m : RegLimits) (duration current : Nat) : Prop :=
  1 ≤ duration ∧ duration ≤ 20000 ∧ current ≤ 1023 ∧ m.durMin ≤ duration ∧ duration ≤ m.durCeiling ∧
  m.curFloor ≤ current ∧ current ≤ m.curCeiling ∧ (0 < m.bandStep → duration % m.bandStep = 0)

theorem forceAllowed_iff (m : RegLimits) (duration current : Nat) :
    ForceAllowed m duration current ↔
      (1 ≤ duration ∧ duration ≤ 20000 ∧ current ≤ 1023) ∧ forceFits m duration current = true := by
  have hband : (m.bandStep = 0 ∨ duration % m.bandStep = 0) ↔ (0 < m.bandStep → duration % m.bandStep = 0) := by
    rw [Nat.pos_iff_ne_zero, or_iff_not_imp_left]
  simp only [ForceAllowed, forceFits, Bool.and_eq_true, Bool.or_eq_true, decide_eq_true_eq, hband, and_assoc]

/-- REG_FORCE decodes the actuators it carries, and refuses those out of every range (R103 check 2). -/
theorem parseRegForce_bytes (l : Light) {duration current : Nat} (hd : duration < 65536) (hc : current < 65536) :
    parseRegForce (lightCode l :: (le2 duration ++ le2 current)) =
      if 1 ≤ duration ∧ duration ≤ 20000 ∧ current ≤ 1023 then .ok (l, duration, current)
      else .error .badValue := by
  have hlen : (lightCode l :: (le2 duration ++ le2 current)).length = 5 := rfl
  have hduration : word16At (lightCode l :: (le2 duration ++ le2 current)) 1 = duration := word16At_le2 hd rfl rfl
  have hcurrent : word16At (lightCode l :: (le2 duration ++ le2 current)) 3 = current := word16At_le2 hc rfl rfl
  rw [parseRegForce, lightAt_code, hduration, hcurrent]
  simp only [sized_checked hlen, Bool.and_eq_true, decide_eq_true_eq, and_assoc]

theorem parseRegForce_noLight {x : Byte} {rest : List Byte} (h : 8 ≤ x.toNat) (hlen : rest.length = 4) :
    parseRegForce (x :: rest) = .error .badValue := by
  rw [parseRegForce, lightAt_none h]
  exact sized_none (by simp [hlen])

theorem regForce_ready {tag : Byte} {p : List Byte} {s : State} (h : Ready s) (hn : NoOpen s) (hlen : p.length = 5) :
    exec (.regForce tag p) s = .next (replied 0xB1#8 tag (takeRegForce p s).reply (takeRegForce p s).state) :=
  hostCommand_noOpen h hn (by omega)

theorem withActuators_auto {r : Regulator} (h : r.mode = .auto) (duration current : Nat) :
    withActuators duration current r =
      { r with duration := duration, current := current, state := .converging, sum := 0, count := 0 } :=
  if_pos h

theorem withActuators_other {r : Regulator} (h : r.mode ≠ .auto) (duration current : Nat) :
    withActuators duration current r = { r with duration := duration, current := current } :=
  if_neg h

@[simp] theorem withActuators_duration (duration current : Nat) (r : Regulator) :
    (withActuators duration current r).duration = duration := by
  unfold withActuators; simp only; split <;> rfl

@[simp] theorem withActuators_current (duration current : Nat) (r : Regulator) :
    (withActuators duration current r).current = current := by
  unfold withActuators; simp only; split <;> rfl

theorem takeRegForce_refused {p : List Byte} {st : Status} (s : State) (h : parseRegForce p = .error st) :
    takeRegForce p s = refuse st s := by
  simp [takeRegForce, h]

/-- REG_FORCE writes actuators that fit the limits in force and answers them (R99, R103 check 3). -/
theorem takeRegForce_parsed {p : List Byte} {l : Light} {duration current : Nat} (s : State)
    (h : parseRegForce p = .ok (l, duration, current)) :
    takeRegForce p s =
      if forceFits (s.regs.get l).limits duration current = true then
        accept (updateReg l (withActuators duration current) s)
          ([lightCode l] ++ le2 duration ++ le2 current ++
            [regStateCode (withActuators duration current (s.regs.get l)).state])
      else refuse .badValue s := by
  cases hfits : forceFits (s.regs.get l).limits duration current with
  | true => simp [takeRegForce, h, putRegForce, hfits, updateReg]
  | false => simp [takeRegForce, h, putRegForce, hfits]

/-- REG_FORCE by what its checks allow (R103). -/
theorem takeRegForce_bytes (l : Light) {duration current : Nat} (hd : duration < 65536) (hc : current < 65536)
    (s : State) :
    takeRegForce (lightCode l :: (le2 duration ++ le2 current)) s =
      if ForceAllowed (s.regs.get l).limits duration current then
        accept (updateReg l (withActuators duration current) s)
          ([lightCode l] ++ le2 duration ++ le2 current ++
            [regStateCode (withActuators duration current (s.regs.get l)).state])
      else refuse .badValue s := by
  have hparsed := parseRegForce_bytes l hd hc
  simp only [forceAllowed_iff]
  by_cases hrange : 1 ≤ duration ∧ duration ≤ 20000 ∧ current ≤ 1023
  · rw [if_pos hrange] at hparsed
    simp only [takeRegForce_parsed s hparsed, hrange, true_and]
  · rw [if_neg hrange] at hparsed
    rw [takeRegForce_refused s hparsed, if_neg (fun hallowed => hrange hallowed.1)]

/-- Settles O47: REG_MODE by the mode, REG_FORCE by its checks and the mode in force. -/
theorem regModeAndForce : Obligations.RegModeAndForce := by
  intro tag l s hready hopen
  refine ⟨?auto, ?manual, ?off, fun x m hbad => ?_,
    fun x rest hx hlen => ?_, fun duration current hd hc => ⟨fun hfits hauto => ?_, fun hfits hother => ?_,
      fun hrefused => ?_⟩⟩
  case auto =>
    have htaken := exec_regMode hready hopen tag l .auto
    rwa [putRegMode_on (by decide)] at htaken
  case manual =>
    have htaken := exec_regMode hready hopen tag l .manual
    rwa [putRegMode_on (by decide)] at htaken
  case off =>
    have htaken := exec_regMode hready hopen tag l .off
    rwa [putRegMode_off] at htaken
  · rw [regMode_ready hready hopen, takeRegMode_undefined hbad]
    rfl
  · rw [regForce_ready hready hopen (by simp [hlen]),
      takeRegForce_refused s (parseRegForce_noLight hx hlen)]
    rfl
  · rw [regForce_ready hready hopen rfl, takeRegForce_bytes l hd hc, if_pos hfits, updateReg,
      withActuators_auto hauto]
    rfl
  · rw [regForce_ready hready hopen rfl, takeRegForce_bytes l hd hc, if_pos hfits, updateReg,
      withActuators_other hother]
    rfl
  · rw [regForce_ready hready hopen rfl, takeRegForce_bytes l hd hc, if_neg hrefused]
    rfl

/-! ### REG_BANDS (R104) -/

theorem forall_get_iff {α : Type} {q : Quad α} {P : α → Prop} :
    (∀ i, P (q.get i)) ↔ P q.q0 ∧ P q.q1 ∧ P q.q2 ∧ P q.q3 := by
  refine ⟨fun h => ⟨h 0, h 1, h 2, h 3⟩, fun ⟨h0, h1, h2, h3⟩ i => ?_⟩
  fin_cases i
  exacts [h0, h1, h2, h3]

/-- The bounds and weights that REG_BANDS allows (R104). -/
theorem bandsValid_iff (b : RegBands) : bandsValid b = true ↔
    b.fastLow < b.leaveLow ∧ b.leaveLow ≤ b.enterLow ∧ b.enterLow < b.enterHigh ∧ b.enterHigh ≤ b.leaveHigh ∧
    b.leaveHigh < b.fastHigh ∧ ∀ i, b.weights.get i ≤ 15 := by
  simp only [bandsValid, Bool.and_eq_true, decide_eq_true_eq, and_assoc, forall_get_iff (P := (· ≤ 15))]

/-- The bounds and weights that a REG_BANDS payload holds (R104). -/
def bandsAt (p : List Byte) : RegBands :=
  { fastLow := word16At p 1, leaveLow := word16At p 3, enterLow := word16At p 5, enterHigh := word16At p 7,
    leaveHigh := word16At p 9, fastHigh := word16At p 11,
    weights := ⟨byteAt p 13, byteAt p 14, byteAt p 15, byteAt p 16⟩ }

/-- The numbers of a band record fit their fields (R104). -/
structure BandsFit (b : RegBands) : Prop where
  fastLow : b.fastLow < 65536
  leaveLow : b.leaveLow < 65536
  enterLow : b.enterLow < 65536
  enterHigh : b.enterHigh < 65536
  leaveHigh : b.leaveHigh < 65536
  fastHigh : b.fastHigh < 65536
  weights : ∀ i, b.weights.get i < 256

/-- The bytes of a band record hold it (R99). -/
theorem bandsAt_bandsBytes {b : RegBands} (h : BandsFit b) (x : Byte) : bandsAt (x :: bandsBytes b) = b := by
  unfold bandsAt
  rw [word16At_le2 h.fastLow rfl rfl, word16At_le2 h.leaveLow rfl rfl, word16At_le2 h.enterLow rfl rfl,
    word16At_le2 h.enterHigh rfl rfl, word16At_le2 h.leaveHigh rfl rfl, word16At_le2 h.fastHigh rfl rfl,
    byteAt_of_getD (h.weights 0) rfl, byteAt_of_getD (h.weights 1) rfl, byteAt_of_getD (h.weights 2) rfl,
    byteAt_of_getD (h.weights 3) rfl]
  rfl

theorem parseRegBands_light {p : List Byte} {l : Light} (hlight : lightOf (byteAt p 0) = some l)
    (hlen : p.length = 17) :
    parseRegBands p = if bandsValid (bandsAt p) = true then .ok (l, bandsAt p) else .error .badValue := by
  rw [parseRegBands, hlight]
  exact sized_checked hlen _ _

theorem parseRegBands_noLight {x : Byte} {rest : List Byte} (h : 8 ≤ x.toNat) (hlen : rest.length = 16) :
    parseRegBands (x :: rest) = .error .badValue := by
  rw [parseRegBands, lightAt_none h]
  exact sized_none (by simp [hlen])

/-- REG_BANDS decodes the record whose bytes it carries, and refuses one that is not legal (R104). -/
theorem parseRegBands_bytes {b : RegBands} (h : BandsFit b) (l : Light) :
    parseRegBands (lightCode l :: bandsBytes b) = if bandsValid b = true then .ok (l, b) else .error .badValue := by
  rw [parseRegBands_light (lightAt_code l _) rfl, bandsAt_bandsBytes h]

theorem regBands_ready {tag : Byte} {p : List Byte} {s : State} (h : Ready s) (hn : NoOpen s) (hlen : p.length = 17) :
    exec (.regBands tag p) s = .next (replied 0xB2#8 tag (takeRegBands p s).reply (takeRegBands p s).state) :=
  hostCommand_noOpen h hn (by omega)

theorem takeRegBands_refused {p : List Byte} {st : Status} (s : State) (h : parseRegBands p = .error st) :
    takeRegBands p s = refuse st s := by
  simp [takeRegBands, h]

theorem takeRegBands_stored {p : List Byte} {l : Light} {b : RegBands} (s : State)
    (h : parseRegBands p = .ok (l, b)) :
    takeRegBands p s = accept (putRegBands l b s) (lightCode l :: bandsBytes b) := by
  simp [takeRegBands, h, putRegBands, updateReg]

/-! ### REG_LIMITS (R105, R106) -/

/-- The limits that REG_LIMITS allows, of those whose numbers fit their fields (R105). -/
theorem limitsValid_iff {m : RegLimits} (hratio : m.ratio < 256) : limitsValid m = true ↔
    1 ≤ m.durMin ∧ m.durMin ≤ m.durCeiling ∧ m.durCeiling ≤ 20000 ∧ m.curFloor ≤ m.curCeiling ∧
    m.curCeiling ≤ 1023 ∧ 1 ≤ m.durStep ∧ m.durStep ≤ 1000 ∧ 1 ≤ m.curStep ∧ m.curStep ≤ 255 ∧
    m.bandStep ≤ 10000 ∧ (0 < m.bandStep → m.durMin % m.bandStep = 0 ∧ m.durCeiling % m.bandStep = 0) := by
  have hinRange : m.ratio ≤ 255 := by omega
  simp only [limitsValid, Bool.and_eq_true, Bool.or_eq_true, decide_eq_true_eq, and_assoc, hinRange, true_and,
    Nat.pos_iff_ne_zero, or_iff_not_imp_left, ne_eq]

/-- The limits that a REG_LIMITS payload holds (R105). -/
def limitsAt (p : List Byte) : RegLimits :=
  { durMin := word16At p 1, durCeiling := word16At p 3, curFloor := word16At p 5, curCeiling := word16At p 7,
    durStep := word16At p 9, curStep := byteAt p 11, ratio := byteAt p 12, bandStep := word16At p 13 }

/-- The numbers of a limits record fit their fields (R105). -/
structure LimitsFit (m : RegLimits) : Prop where
  durMin : m.durMin < 65536
  durCeiling : m.durCeiling < 65536
  curFloor : m.curFloor < 65536
  curCeiling : m.curCeiling < 65536
  durStep : m.durStep < 65536
  curStep : m.curStep < 256
  ratio : m.ratio < 256
  bandStep : m.bandStep < 65536

/-- The bytes of a limits record hold it (R99). -/
theorem limitsAt_limitsBytes {m : RegLimits} (h : LimitsFit m) (x : Byte) : limitsAt (x :: limitsBytes m) = m := by
  unfold limitsAt
  rw [word16At_le2 h.durMin rfl rfl, word16At_le2 h.durCeiling rfl rfl, word16At_le2 h.curFloor rfl rfl,
    word16At_le2 h.curCeiling rfl rfl, word16At_le2 h.durStep rfl rfl, byteAt_of_getD h.curStep rfl,
    byteAt_of_getD h.ratio rfl, word16At_le2 h.bandStep rfl rfl]

theorem parseRegLimits_light {p : List Byte} {l : Light} (hlight : lightOf (byteAt p 0) = some l)
    (hlen : p.length = 15) :
    parseRegLimits p = if limitsValid (limitsAt p) = true then .ok (l, limitsAt p) else .error .badValue := by
  rw [parseRegLimits, hlight]
  exact sized_checked hlen _ _

theorem parseRegLimits_noLight {x : Byte} {rest : List Byte} (h : 8 ≤ x.toNat) (hlen : rest.length = 14) :
    parseRegLimits (x :: rest) = .error .badValue := by
  rw [parseRegLimits, lightAt_none h]
  exact sized_none (by simp [hlen])

/-- REG_LIMITS decodes the record whose bytes it carries, and refuses one that is not legal (R105). -/
theorem parseRegLimits_bytes {m : RegLimits} (h : LimitsFit m) (l : Light) :
    parseRegLimits (lightCode l :: limitsBytes m) =
      if limitsValid m = true then .ok (l, m) else .error .badValue := by
  rw [parseRegLimits_light (lightAt_code l _) rfl, limitsAt_limitsBytes h]

theorem regLimits_ready {tag : Byte} {p : List Byte} {s : State} (h : Ready s) (hn : NoOpen s)
    (hlen : p.length = 15) :
    exec (.regLimits tag p) s = .next (replied 0xB3#8 tag (takeRegLimits p s).reply (takeRegLimits p s).state) :=
  hostCommand_noOpen h hn (by omega)

theorem takeRegLimits_refused {p : List Byte} {st : Status} (s : State) (h : parseRegLimits p = .error st) :
    takeRegLimits p s = refuse st s := by
  simp [takeRegLimits, h]

/-- REG_LIMITS stores legal limits and answers them with the actuators moved into them (R99, R106). -/
theorem takeRegLimits_stored {p : List Byte} {l : Light} {m : RegLimits} (s : State)
    (h : parseRegLimits p = .ok (l, m)) :
    takeRegLimits p s =
      accept (putRegLimits l m s) (lightCode l :: limitsBytes m ++
        le2 (withLimits m (s.regs.get l)).duration ++ le2 (withLimits m (s.regs.get l)).current) := by
  simp [takeRegLimits, h, putRegLimits, updateReg, withLimits]

/-- Settles O48: each command by the light it names, then by whether its record is legal. -/
theorem regBandsAndLimits : Obligations.RegBandsAndLimits := by
  intro tag l s hready hopen
  refine ⟨fun x rest hx => ⟨fun hlen => ?_, fun hlen => ?_⟩, fun b h0 h1 h2 h3 h4 h5 hweights => ?bands,
    fun m h0 h1 h2 h3 h4 h5 hratio h7 => ?limits⟩
  · rw [regBands_ready hready hopen (by simp [hlen]), takeRegBands_refused s (parseRegBands_noLight hx hlen)]
    rfl
  · rw [regLimits_ready hready hopen (by simp [hlen]), takeRegLimits_refused s (parseRegLimits_noLight hx hlen)]
    rfl
  case bands =>
    have hparsed := parseRegBands_bytes ⟨h0, h1, h2, h3, h4, h5, hweights⟩ l
    have htaken := regBands_ready (tag := tag) (p := lightCode l :: bandsBytes b) hready hopen rfl
    refine ⟨fun hlegal => htaken.trans ?_, fun hbad => htaken.trans ?_⟩
    · rw [if_pos ((bandsValid_iff b).mpr hlegal)] at hparsed
      rw [takeRegBands_stored s hparsed]
      rfl
    · rw [if_neg (mt (bandsValid_iff b).mp hbad)] at hparsed
      rw [takeRegBands_refused s hparsed]
      rfl
  case limits =>
    have hparsed := parseRegLimits_bytes ⟨h0, h1, h2, h3, h4, h5, hratio, h7⟩ l
    have htaken := regLimits_ready (tag := tag) (p := lightCode l :: limitsBytes m) hready hopen rfl
    refine ⟨fun hlegal => htaken.trans ?_, fun hbad => htaken.trans ?_⟩
    · rw [if_pos ((limitsValid_iff hratio).mpr hlegal)] at hparsed
      rw [takeRegLimits_stored s hparsed]
      rfl
    · rw [if_neg (mt (limitsValid_iff hratio).mp hbad)] at hparsed
      rw [takeRegLimits_refused s hparsed]
      rfl

/-! ### REG_GET, LIGHT_GET and a light number from 8 up (R107, R124) -/

theorem parseLight_code (l : Light) : parseLight [lightCode l] = .ok l := by
  rw [parseLight, lightAt_code]
  rfl

theorem parseLight_noLight {x : Byte} (h : 8 ≤ x.toNat) : parseLight [x] = .error .badValue := by
  rw [parseLight, lightAt_none h]
  rfl

section Readers

variable {tag x : Byte} {s : State}

theorem regGet_ready (h : Ready s) :
    exec (.regGet tag [x]) s = .next (replied 0xB4#8 tag (takeRegGet [x] s).reply (takeRegGet [x] s).state) :=
  hostCommand_unstageable h (show 1 ≤ 250 by omega) rfl

theorem lightGet_ready (h : Ready s) :
    exec (.lightGet tag [x]) s = .next (replied 0xB9#8 tag (takeLightGet [x] s).reply (takeLightGet [x] s).state) :=
  hostCommand_unstageable h (show 1 ≤ 250 by omega) rfl

theorem faultClear_ready (h : Ready s) :
    exec (.faultClear tag [x]) s =
      .next (replied 0xBA#8 tag (takeFaultClear [x] s).reply (takeFaultClear [x] s).state) :=
  hostCommand_unstageable h (show 1 ≤ 250 by omega) rfl

end Readers

/-- With no last figure REG_GET carries three zero bytes (R183). -/
theorem lastFigureBytes_none : lastFigureBytes none = [0#8, 0#8, 0#8] := rfl

theorem lastFigureBytes_some (f : Nat) : lastFigureBytes (some f) = 1#8 :: le2 f := rfl

/-- REG_GET answers the regulator's whole record (R107). -/
theorem takeRegGet_code (l : Light) (s : State) :
    takeRegGet [lightCode l] s = accept s (regulatorBytes (s.regs.get l)) := by
  simp [takeRegGet, parseLight_code]

/-- LIGHT_GET answers the light channel's whole record and its line's level (R124). -/
theorem takeLightGet_code (l : Light) (s : State) :
    takeLightGet [lightCode l] s =
      accept s (le4 (s.lights.channels.get l).heat ++ le4 (s.lights.channels.get l).heatLimit ++
        le2 (s.lights.channels.get l).coolRate ++ [boolCode (s.lights.channels.get l).faulted,
          boolCode (hasLight s.pins.faultLines l), boolCode (s.lights.channels.get l).on]) := by
  simp [takeLightGet, parseLight_code]

theorem takeRegGet_noLight {x : Byte} (h : 8 ≤ x.toNat) (s : State) : takeRegGet [x] s = refuse .badValue s := by
  simp [takeRegGet, parseLight_noLight h]

theorem takeLightGet_noLight {x : Byte} (h : 8 ≤ x.toNat) (s : State) : takeLightGet [x] s = refuse .badValue s := by
  simp [takeLightGet, parseLight_noLight h]

theorem takeFaultClear_noLight {x : Byte} (h : 8 ≤ x.toNat) (s : State) :
    takeFaultClear [x] s = refuse .badValue s := by
  simp [takeFaultClear, parseLight_noLight h]

/-- Settles O49: the record of a light there is, and the refusal of a number that names none. -/
theorem recordsRead : Obligations.RecordsRead := by
  intro tag l s hready
  refine ⟨?_, ?_, fun x hx => ⟨?_, ?_, ?_⟩⟩
  · rw [regGet_ready hready, takeRegGet_code]
    refine congrArg (fun p => Host.Outcome.next (replied 0xB4#8 tag p s)) ?_
    cases hfigure : (s.regs.get l).lastFigure with
    | none => simp [accept, statusCode, regulatorBytes, limitsBytes, bandsBytes, hfigure, lastFigureBytes_none]
    | some f => simp [accept, statusCode, regulatorBytes, limitsBytes, bandsBytes, hfigure, lastFigureBytes_some]
  · rw [lightGet_ready hready, takeLightGet_code]
    rfl
  · rw [regGet_ready hready, takeRegGet_noLight hx]
    rfl
  · rw [lightGet_ready hready, takeLightGet_noLight hx]
    rfl
  · rw [faultClear_ready hready, takeFaultClear_noLight hx]
    rfl

end Sys2Proof.RegulatorProofs
end

section
/-!
PROOFS. The fault lines (06_light_channels_duty_guard_and_fault_inputs.md section 6.6): what a fault arrival writes when
it latches, the report and the stop it raises, and the line's return to inactive.
-/

namespace Sys2Proof.LightProofs

open Sys2Proof.Machine Sys2Proof.Safety Sys2Proof.RunControlProofs

/-- The second write at a light is the one that stays. -/
theorem octet_set_set {α : Type} (o : Octet α) (l : Light) (x y : α) : (o.set l x).set l y = o.set l y := by
  apply Octet.ext_get
  intro k
  simp only [Octet.get_set]
  split <;> rfl

/-! ### The events at a Resting part -/

theorem exec_faultArrival {l : Light} {s : State} (h : Resting s) :
    exec (.faultArrival l) s = .next (startSend (faultArrival l s)) :=
  pinEvent_resting h (faultArrival_untouched l s)

/-- The line's return changes its level, and the transmitter has nothing to begin (R117). -/
theorem exec_faultLineReturn {l : Light} {s : State} (h : Resting s) :
    exec (.faultLineReturnToInactive l) s =
      .next { s with pins.faultLines := dropLight s.pins.faultLines l } := by
  have hlevel : Untouched s (faultLineReturn l s) := .of_link rfl rfl rfl
  exact (pinEvent_resting h hlevel).trans (congrArg Host.Outcome.next (startSend_silent h rfl))

/-! ### The level of the lines -/

theorem addLight_bit (x : LightSet) (l k : Light) :
    (addLight x l).getLsbD k.val = (decide (k = l) || x.getLsbD k.val) :=
  hasLight_addLight x l k

theorem dropLight_bit (x : LightSet) (l k : Light) :
    (dropLight x l).getLsbD k.val = (decide (k ≠ l) && x.getLsbD k.val) := by
  rw [decide_not]
  exact hasLight_dropLight x l k

/-- A light already faulted: the arrival is the line's new level (R117). -/
theorem faultArrival_faulted {l : Light} {s : State} (h : (s.lights.channels.get l).faulted = true) :
    faultArrival l s = { s with pins.faultLines := addLight s.pins.faultLines l } :=
  if_pos h

/-! ### The latch and the cut (R117, R118) -/

/-- The channel as a fault latch leaves it: faulted, and off. -/
def latchedDark (c : LightChannel) : LightChannel := { c with faulted := true, firing := none }

/-- The shot in flight after the latch: a light that was lit joins its cut set. -/
def shotCut (l : Light) (lit : Bool) (sh : Shot) : Shot :=
  { sh with cut := if lit then addLight sh.cut l else sh.cut }

theorem shotCut_dark (l : Light) : shotCut l false = id := rfl

theorem shotCut_bit (l k : Light) (lit : Bool) (sh : Shot) :
    (shotCut l lit sh).cut.getLsbD k.val = ((lit && decide (k = l)) || sh.cut.getLsbD k.val) := by
  cases lit with
  | false => simp [shotCut]
  | true => simpa [shotCut] using addLight_bit sh.cut l k

/-- The part with the fault latched and the light cut, before the report. -/
def latchedAndCut (l : Light) (s : State) : State :=
  { s with
    lights.channels := s.lights.channels.set l (latchedDark (s.lights.channels.get l))
    seq.shot := s.seq.shot.map (shotCut l (s.lights.channels.get l).on) }

theorem setFaulted_channel (l : Light) (s : State) :
    (setFaulted l s).lights.channels.get l = { s.lights.channels.get l with faulted := true } := by
  simp [setFaulted, updateLight]

/-- A lit light is latched and switched off and joins the cut set; a dark one is only latched. -/
theorem cutIfOn_setFaulted (l : Light) (s : State) : cutIfOn l (setFaulted l s) = latchedAndCut l s := by
  have hon : ((setFaulted l s).lights.channels.get l).on = (s.lights.channels.get l).on := by
    rw [setFaulted_channel]
    rfl
  unfold cutIfOn latchedAndCut
  rw [hon]
  cases hlit : (s.lights.channels.get l).on with
  | true =>
    have hchannels : (lightOff l (setFaulted l s)).lights.channels =
        s.lights.channels.set l (latchedDark (s.lights.channels.get l)) := by
      simp only [lightOff, setFaulted_channel]
      exact octet_set_set _ _ _ _
    rw [if_pos rfl, ← hchannels]
    rfl
  | false =>
    have hoff : (s.lights.channels.get l).firing = none := by simpa [LightChannel.on] using hlit
    have hdark : latchedDark (s.lights.channels.get l) = { s.lights.channels.get l with faulted := true } := by
      rw [latchedDark, ← hoff]
    rw [shotCut_dark, Option.map_id, hdark]
    rfl

/-! ### The report and the stop (R119, R120) -/

theorem faultStops_eq (s : State) :
    faultStops s = (s.run.setup.faultHalts &&
      decide (s.run.state = .delaying ∨ s.run.state = .running ∨ s.run.state = .paused)) := by
  simp [faultStops, Bool.or_assoc]

/-- The report's fields read the same before the latch and the cut as after them. -/
theorem faultPayload_latchedAndCut (l : Light) (cut : Bool) (s : State) :
    faultPayload l cut (latchedAndCut l s) = faultPayload l cut s := by
  have hheat : ((latchedAndCut l s).lights.channels.get l).heat = (s.lights.channels.get l).heat := by
    simp [latchedAndCut, latchedDark]
  rw [faultPayload, hheat]
  rfl

/-- The part with the fault latched, the light cut and the FAULT report raised. -/
def faultReported (l : Light) (s : State) : State :=
  raise .fault (faultPayload l (s.lights.channels.get l).on s) (latchedAndCut l s)

theorem latchFault_eq (l : Light) (s : State) :
    latchFault l s = if faultStops s then stopEvent .fault (faultReported l s) else faultReported l s := by
  simp only [latchFault, cutIfOn_setFaulted, faultPayload_latchedAndCut]
  rfl

/-- A light not yet faulted: the line's new level, then the latch (R117). -/
theorem faultArrival_latches {l : Light} {s : State} (h : (s.lights.channels.get l).faulted = false) :
    faultArrival l s = latchFault l (setFaultLine l true s) :=
  if_neg (by simp [h])

theorem faultReported_shot (l : Light) (s : State) :
    (faultReported l s).seq.shot = s.seq.shot.map (shotCut l (s.lights.channels.get l).on) := by
  simp [faultReported, latchedAndCut]

/-- Settles O52: the line's return, the arrival at a faulted light, and the latch with its cut, report and stop. -/
theorem faultLines : Obligations.FaultLines := by
  intro l s hrest
  refine ⟨addLight s.pins.faultLines l, dropLight s.pins.faultLines l, addLight_bit _ l, dropLight_bit _ l,
    exec_faultLineReturn hrest, fun hfaulted => ?_, fun hclear => ?_⟩
  · rw [exec_faultArrival hrest, faultArrival_faulted hfaulted]
    exact congrArg Host.Outcome.next (startSend_silent hrest rfl)
  · have hshot := faultReported_shot l (setFaultLine l true s)
    refine ⟨faultReported l (setFaultLine l true s), ?_, ?_, fun sh sh' hbefore hafter => ?_, ?_⟩
    · rw [hshot, ← faultStops_eq]
      rfl
    · simp [hshot]
    · simp only [hshot, setFaultLine_seq, hbefore, Option.map_some, Option.some.injEq] at hafter
      subst hafter
      exact ⟨rfl, fun k => shotCut_bit l k _ sh⟩
    · rw [exec_faultArrival hrest, faultArrival_latches hclear, latchFault_eq, ← faultStops_eq]
      rfl

end Sys2Proof.LightProofs
end

section
/-!
PROOFS. FAULT_CLEAR and the duty timer (06_light_channels_duty_guard_and_fault_inputs.md sections 6.4 and 6.7, and the
restart of an AUTO regulator, 05_level_regulators.md R108).
-/

namespace Sys2Proof.LightProofs

open Sys2Proof.Machine Sys2Proof.Safety Sys2Proof.RunControlProofs Sys2Proof.RegulatorProofs

/-! ### What FAULT_CLEAR does to a light (R108, R122) -/

theorem clearFault_unfaulted {l : Light} {s : State} (h : (s.lights.channels.get l).faulted = false) :
    clearFault l s = s := by
  simp [clearFault, h]

/-- The light's latch cleared, and nothing else. -/
def latchCleared (l : Light) (s : State) : State := updateLight l (fun c => { c with faulted := false }) s

/-- A regulator changed into itself changes nothing. -/
theorem updateReg_same {l : Light} {f : Regulator → Regulator} {s : State} (h : f (s.regs.get l) = s.regs.get l) :
    updateReg l f s = s := by
  rw [updateReg, h, Octet.set_get]

/-- With the light faulted the regulator restarts, if it is AUTO, on top of the cleared latch (R108, R122). -/
theorem clearFault_latched {l : Light} {s : State} (h : (s.lights.channels.get l).faulted = true) :
    clearFault l s =
      updateReg l (fun r => if r.mode = .auto then { r with state := .converging } else r) (latchCleared l s) :=
  if_pos h

theorem clearFault_notAuto {l : Light} {s : State} (h : (s.lights.channels.get l).faulted = true)
    (hmode : (s.regs.get l).mode ≠ .auto) : clearFault l s = latchCleared l s := by
  rw [clearFault_latched h]
  exact updateReg_same (if_neg hmode)

theorem clearFault_auto {l : Light} {s : State} (h : (s.lights.channels.get l).faulted = true)
    (hmode : (s.regs.get l).mode = .auto) :
    clearFault l s =
      { latchCleared l s with regs := s.regs.set l { s.regs.get l with state := .converging } } := by
  rw [clearFault_latched h]
  exact congrArg (fun r => { latchCleared l s with regs := s.regs.set l r }) (if_pos hmode)

/-- After FAULT_CLEAR the light is not faulted, whether or not it was. -/
theorem clearFault_faulted (l : Light) (s : State) :
    ((clearFault l s).lights.channels.get l).faulted = false := by
  unfold clearFault
  split
  · simp [updateLight]
  · next h => simpa using h

theorem clearFault_pins (l : Light) (s : State) : (clearFault l s).pins = s.pins := by
  unfold clearFault
  split <;> rfl

/-! ### FAULT_CLEAR (R122) -/

theorem takeFaultClear_active {l : Light} {s : State} (h : s.pins.faultLines.getLsbD l.val = true) :
    takeFaultClear [lightCode l] s = refuse .stillActive s := by
  have hline : hasLight s.pins.faultLines l = true := h
  simp [takeFaultClear, parseLight_code, hline]

theorem takeFaultClear_inactive {l : Light} {s : State} (h : s.pins.faultLines.getLsbD l.val = false) :
    takeFaultClear [lightCode l] s = accept (clearFault l s) [lightCode l, 0#8, 0#8] := by
  have hline : hasLight s.pins.faultLines l = false := h
  simp [takeFaultClear, parseLight_code, hline, clearFault_faulted, clearFault_pins, boolCode]

/-- FAULT_CLEAR with the line inactive, taken by a Ready part, answers the light, not faulted and inactive. -/
theorem faultClear_inactive {tag : Byte} {l : Light} {s : State} (hready : Ready s)
    (h : s.pins.faultLines.getLsbD l.val = false) :
    exec (.faultClear tag [lightCode l]) s =
      .next (replied 0xBA#8 tag [0#8, lightCode l, 0#8, 0#8] (clearFault l s)) := by
  rw [faultClear_ready hready, takeFaultClear_inactive h]
  rfl

/-! ### The duty timer's expiry (R115) -/

/-- The expiry raises nothing, so the transmitter has nothing to begin. -/
theorem exec_dutyTimerExpiry {s : State} (h : Resting s) : exec .dutyTimerExpiry s = .next (dutyTimerExpiry s) := by
  have hlink : (dutyTimerExpiry s).link = s.link := by
    unfold dutyTimerExpiry
    split <;> rfl
  exact (event_resting h (dutyTimerExpiry_untouched s)).trans (congrArg Host.Outcome.next (startSend_silent h hlink))

theorem dutyTimerExpiry_stopped {s : State} (h : s.lights.dutyTimer = none) : dutyTimerExpiry s = s := by
  simp [dutyTimerExpiry, h]

theorem dutyTimerExpiry_running {s : State} (h : s.lights.dutyTimer ≠ none) :
    dutyTimerExpiry s =
      { s with lights := { channels := s.lights.channels.map coolChannel, dutyTimer := some 1000 } } := by
  unfold dutyTimerExpiry
  split
  · next hnone => exact absurd hnone h
  · rfl

/-- Settles O53: FAULT_CLEAR by the line's level, the latch and the regulator's mode, and the duty timer's expiry. -/
theorem faultClearAndCooling : Obligations.FaultClearAndCooling := by
  refine ⟨fun tag l s hready => ⟨fun hactive => ?_, fun hinactive => ⟨fun hunfaulted => ?_,
    fun hfaulted hmode => ?_, fun hfaulted hmode => ?_⟩⟩, fun s hrest => ⟨fun hstopped => ?_, fun hrunning => ?_⟩⟩
  · rw [faultClear_ready hready, takeFaultClear_active hactive]
    rfl
  · rw [faultClear_inactive hready hinactive, clearFault_unfaulted hunfaulted]
  · rw [faultClear_inactive hready hinactive, clearFault_notAuto hfaulted hmode]
    rfl
  · rw [faultClear_inactive hready hinactive, clearFault_auto hfaulted hmode]
    rfl
  · rw [exec_dutyTimerExpiry hrest, dutyTimerExpiry_stopped hstopped]
  · rw [exec_dutyTimerExpiry hrest, dutyTimerExpiry_running hrunning]
    rfl

end Sys2Proof.LightProofs
end

section
/-!
PROOFS. The rules of the Stage Unit (07_staging_banks.md sections 7.1, 7.2 and 7.6): which bank is OPEN, which banks are
in rotation, what writing one bank does, and that every step keeps the unit sound.
-/

namespace Sys2Proof.StageProofs

open Sys2Proof.Machine Sys2Proof.Safety Sys2Proof.BlocksProofs

/-! ### The OPEN bank and the banks in rotation (R128) -/

theorem opened_of_openBank {u : StageUnit} {b : Fin 4} (h : openBank u = some b) :
    (u.banks.get b).state = .opened := by
  unfold openBank at h
  repeat' split at h
  all_goals cases h
  all_goals assumption

theorem openBank_eq_none_iff (u : StageUnit) : openBank u = none ↔ ∀ b, (u.banks.get b).state ≠ .opened := by
  refine ⟨fun h b => ?_, fun h => ?_⟩
  · unfold openBank at h
    repeat' split at h
    all_goals cases h
    fin_cases b <;> assumption
  · cases hopen : openBank u with
    | none => rfl
    | some b => exact absurd (opened_of_openBank hopen) (h b)

/-- Where at most one bank is OPEN, the OPEN bank is the one found (R128). -/
theorem openBank_of_opened {u : StageUnit} {b : Fin 4} (hone : OneOpen u) (h : (u.banks.get b).state = .opened) :
    openBank u = some b := by
  cases hopen : openBank u with
  | none => exact absurd h ((openBank_eq_none_iff u).mp hopen b)
  | some a => rw [hone a b (opened_of_openBank hopen) h]

theorem namedBy_iff (u : StageUnit) (b : Fin 4) : namedBy u.alternation b = true ↔ Named u b := by
  unfold namedBy Named
  cases u.alternation <;> simp

theorem inRotation_iff (u : StageUnit) (b : Fin 4) :
    inRotation u b = true ↔ (u.banks.get b).state = .ready ∧ Named u b := by
  simp [inRotation, namedBy_iff]

theorem inRotation_eq_false_iff {u : StageUnit} {b : Fin 4} (h : (u.banks.get b).state = .ready) :
    inRotation u b = false ↔ ¬Named u b := by
  rw [Bool.eq_false_iff, ne_eq, inRotation_iff, not_and, imp_iff_right h]

/-! ### The Stage Unit's soundness: which updates keep it -/

theorem stageSound_of_stage {s t : State} (h : StageSound s) (hsame : t.stage = s.stage) : StageSound t := by
  unfold StageSound
  rw [hsame]
  exact h

/-- In a sound Stage Unit the banks that the alternation names are READY (R142). -/
theorem ready_of_named {s : State} {b : Fin 4} (h : StageSound s) (hnamed : Named s.stage b) :
    (s.stage.banks.get b).state = .ready := by
  obtain ⟨-, -, -, halternation⟩ := h
  obtain ⟨r, hr, rfl | rfl⟩ := hnamed
  · exact (halternation r hr).2.1
  · exact (halternation r hr).2.2.1

/-- A bank written with its records within its capacity keeps the Stage Unit sound when it is OPEN only where no other
bank is, and READY where the alternation names it (R126, R128, R142). -/
theorem setBank_keeps_stageSound {b : Fin 4} {k : Bank} {s : State} (h : StageSound s)
    (hbank : BankSound (bankCapacity s.stage.layout b) k)
    (hopen : k.state = .opened → ∀ a, a ≠ b → (s.stage.banks.get a).state ≠ .opened)
    (hready : Named s.stage b → k.state = .ready) : StageSound (setBank b k s) := by
  obtain ⟨hlayout, hbanks, hone, halternation⟩ := h
  have written (a : Fin 4) : (s.stage.banks.set b k).get a = if a = b then k else s.stage.banks.get a := Quad.get_set ..
  refine ⟨hlayout, fun a => ?_, fun a c ha hc => ?_, fun r hr => ?_⟩
  · show BankSound _ ((s.stage.banks.set b k).get a)
    rw [written]
    split
    · next hab => exact hab ▸ hbank
    · exact hbanks a
  · have opened (j : Fin 4) (hj : ((s.stage.banks.set b k).get j).state = .opened) :
        (j = b ∧ k.state = .opened) ∨ (j ≠ b ∧ (s.stage.banks.get j).state = .opened) := by
      rw [written] at hj
      by_cases hjb : j = b
      · exact .inl ⟨hjb, by rwa [if_pos hjb] at hj⟩
      · exact .inr ⟨hjb, by rwa [if_neg hjb] at hj⟩
    rcases opened a ha with ⟨hab, hk⟩ | ⟨hab, ha⟩ <;> rcases opened c hc with ⟨hcb, hk'⟩ | ⟨hcb, hc⟩
    · rw [hab, hcb]
    · exact absurd hc (hopen hk c hcb)
    · exact absurd ha (hopen hk' a hab)
    · exact hone a c ha hc
  · obtain ⟨hne, ha, hb, hperiods⟩ := halternation r hr
    have stays (a : Fin 4) (hnamed : Named s.stage a) (ha : (s.stage.banks.get a).state = .ready) :
        ((s.stage.banks.set b k).get a).state = .ready := by
      rw [written]
      split
      · next hab => exact hready (hab ▸ hnamed)
      · exact ha
    exact ⟨hne, stays r.a ⟨r, hr, .inl rfl⟩ ha, stays r.b ⟨r, hr, .inr rfl⟩ hb, hperiods⟩

/-- A bank that goes from one state to another with its records, neither of them EMPTY nor OPEN. -/
theorem withState_keeps_stageSound {b : Fin 4} {st : BankState} {s : State} (h : StageSound s)
    (hempty : st ≠ .empty) (hopen : st ≠ .opened) (hready : Named s.stage b → st = .ready) :
    StageSound (setBank b { s.stage.banks.get b with state := st } s) := by
  obtain ⟨hcapacity, -, hrecords⟩ := h.2.1 b
  exact setBank_keeps_stageSound h ⟨hcapacity, fun he => absurd he hempty, hrecords⟩ (fun ho => absurd ho hopen) hready

/-- A bank emptied, EMPTY or OPEN, which the alternation does not name (R129, R135). -/
theorem emptied_keeps_stageSound {b : Fin 4} {st : BankState} {s : State} (h : StageSound s)
    (hopen : st = .opened → ∀ a, (s.stage.banks.get a).state ≠ .opened) (hfree : ¬Named s.stage b) :
    StageSound (setBank b ⟨st, []⟩ s) :=
  setBank_keeps_stageSound h ⟨Nat.zero_le _, fun _ => rfl, by simp⟩ (fun ho a _ => hopen ho a)
    (fun hnamed => absurd hnamed hfree)

/-! ### Each command of the Stage Unit keeps it sound -/

theorem commandOfCode_commandCode (c : Command) : commandOfCode (commandCode c) = some c := by cases c <;> rfl

theorem capture_keeps_stageSound {b : Fin 4} {c : Command} {p : List Byte} {s : State}
    (hopen : openBank s.stage = some b) (hc : isStageable c = true) (h : StageSound s) :
    StageSound (capture b c p s).state := by
  have hopened := opened_of_openBank hopen
  unfold capture
  split
  · exact h
  · next hcheck =>
    simp only
    split
    · next hroom =>
      obtain ⟨-, -, hrecords⟩ := h.2.1 b
      refine setBank_keeps_stageSound h ⟨?_, fun he => ?_, fun r hr => ?_⟩ (fun _ a hab ha => ?_) fun hnamed => ?_
      · simpa using hroom
      · exact absurd (he.symm.trans hopened) (by decide)
      · rcases List.mem_append.mp hr with hr | hr
        · exact hrecords r hr
        · rw [List.mem_singleton.mp hr]
          exact ⟨c, commandOfCode_commandCode c, hc, hcheck⟩
      · exact hab (h.2.2.1 a b ha hopened)
      · exact ready_of_named h hnamed
    · exact h

theorem takeStageOpen_keeps_stageSound (p : List Byte) {s : State} (h : StageSound s) :
    StageSound (takeStageOpen p s).state := by
  unfold takeStageOpen
  split
  · exact h
  · next b _ =>
    simp only
    split
    · next hfree =>
      obtain ⟨hnone, hstate⟩ := hfree
      refine emptied_keeps_stageSound h (fun _ => (openBank_eq_none_iff _).mp hnone) fun hnamed => ?_
      have hready := ready_of_named h hnamed
      rcases hstate with hempty | ⟨-, hrotation⟩
      · exact absurd (hempty.symm.trans hready) (by decide)
      · exact (inRotation_eq_false_iff hready).mp hrotation hnamed
    · exact h

theorem takeStageClose_keeps_stageSound (p : List Byte) {s : State} (h : StageSound s) :
    StageSound (takeStageClose p s).state := by
  unfold takeStageClose
  split
  · exact h
  · split
    · exact h
    · exact withState_keeps_stageSound h (by decide) (by decide) fun _ => rfl

theorem takeStageDrop_keeps_stageSound (p : List Byte) {s : State} (h : StageSound s) :
    StageSound (takeStageDrop p s).state := by
  unfold takeStageDrop
  split
  · exact h
  · next b _ =>
    simp only
    split
    · exact withState_keeps_stageSound h (by decide) (by decide) fun _ => rfl
    · split
      · next hfree =>
        refine emptied_keeps_stageSound h (fun he => absurd he (by decide)) fun hnamed => ?_
        have hready := ready_of_named h hnamed
        rcases hfree with hopened | ⟨-, hrotation⟩
        · exact absurd (hopened.symm.trans hready) (by decide)
        · exact (inRotation_eq_false_iff hready).mp hrotation hnamed
      · exact h

/-- STAGE_LAYOUT's starts are ordered within the 64 slots (R127 check 2). -/
theorem parseStageLayout_ok {p : List Byte} {l : StageLayout} (h : parseStageLayout p = .ok l) : LayoutSound l := by
  obtain ⟨hchecks, rfl⟩ := checked_some (sized_ok h).2
  simpa [and_assoc] using hchecks

theorem allEmpty_iff (q : Quad Bank) : allEmpty q = true ↔ ∀ b, (q.get b).state = .empty := by
  simp [allEmpty, Fin.forall_fin_succ, Quad.get, and_assoc]

theorem takeStageLayout_keeps_stageSound (p : List Byte) {s : State} (h : StageSound s) :
    StageSound (takeStageLayout p s).state := by
  unfold takeStageLayout
  split
  · exact h
  · next l hl =>
    split
    · next hfree =>
      obtain ⟨-, hbanks, hone, halternation⟩ := h
      have hempty := (allEmpty_iff _).mp hfree.1
      refine ⟨parseStageLayout_ok hl, fun b => ?_, hone, halternation⟩
      obtain ⟨-, hnil, hrecords⟩ := hbanks b
      refine ⟨?_, hnil, hrecords⟩
      show (s.stage.banks.get b).records.length ≤ _
      rw [hnil (hempty b)]
      exact Nat.zero_le _
    · exact h

/-- STAGE_ALTERNATE sets a record of two banks, each with a period, with no hold begun (R141, R142). -/
theorem parseStageAlternate_ok {p : List Byte} {r : Alternation} (h : parseStageAlternate p = .ok (some r)) :
    r.a ≠ r.b ∧ (1 ≤ r.periodA ∧ r.periodA ≤ 255) ∧ (1 ≤ r.periodB ∧ r.periodB ≤ 255) ∧ r.remaining = 0 := by
  have hvalue := (sized_ok h).2
  have hA := byteAt_lt p 2
  have hB := byteAt_lt p 3
  split at hvalue
  · split at hvalue
    · cases hvalue
    · obtain ⟨hchecks, heq⟩ := checked_some hvalue
      cases heq
      simp only [Bool.and_eq_true, decide_eq_true_eq] at hchecks
      obtain ⟨⟨hlowA, hlowB⟩, hne⟩ := hchecks
      exact ⟨hne, ⟨hlowA, Nat.le_of_lt_succ hA⟩, ⟨hlowB, Nat.le_of_lt_succ hB⟩, rfl⟩
  · cases hvalue

theorem alternationSound_none {u : StageUnit} (h : u.alternation = none) : AlternationSound u := by
  intro r hr
  rw [h] at hr
  cases hr

theorem takeStageAlternate_keeps_stageSound (p : List Byte) {s : State} (h : StageSound s) :
    StageSound (takeStageAlternate p s).state := by
  obtain ⟨hlayout, hbanks, hone, -⟩ := id h
  unfold takeStageAlternate
  split
  · exact h
  · exact ⟨hlayout, hbanks, hone, alternationSound_none rfl⟩
  · next r hr =>
    split
    · next hready =>
      obtain ⟨hne, ⟨hA, hA'⟩, ⟨hB, hB'⟩, hremaining⟩ := parseStageAlternate_ok hr
      refine ⟨hlayout, hbanks, hone, fun r' hr' => ?_⟩
      cases hr'
      exact ⟨hne, hready.1, hready.2, hA, hA', hB, hB', by omega⟩
    · exact h

/-! ### A cycle begin, a run reset and a full reset -/

/-- What is left of the due bank's hold at a cycle begin: its whole period when the hold starts there (R143). -/
def holdLeft (r : Alternation) : Nat :=
  if r.remaining = 0 then (if r.dueB then r.periodB else r.periodA) else r.remaining

/-- The alternation after the due bank's hold: the other bank's turn, or the end after b's without repeat (R143). -/
def turnPassed (r : Alternation) : Option Alternation :=
  if r.dueB then (if r.repeats then some { r with dueB := false, remaining := 0 } else none)
  else some { r with dueB := true, remaining := 0 }

theorem alternationAfter_eq (r : Alternation) :
    alternationAfter r =
      if holdLeft r - 1 = 0 then turnPassed r else some { r with remaining := holdLeft r - 1 } := rfl

theorem holdLeft_le {r : Alternation} (hA : r.periodA ≤ 255) (hB : r.periodB ≤ 255) (h : r.remaining ≤ 255) :
    holdLeft r ≤ 255 := by
  unfold holdLeft
  repeat' split
  all_goals assumption

theorem turnPassed_some {r r' : Alternation} (h : turnPassed r = some r') :
    ∃ dueB, r' = { r with dueB := dueB, remaining := 0 } := by
  unfold turnPassed at h
  repeat' split at h
  all_goals cases h
  all_goals exact ⟨_, rfl⟩

/-- A cycle begin counted by the alternation moves its turn and what remains of the hold, and nothing else (R143). -/
theorem alternationAfter_some {r r' : Alternation} (h : alternationAfter r = some r') :
    ∃ dueB remaining, r' = { r with dueB := dueB, remaining := remaining } ∧ remaining ≤ holdLeft r := by
  rw [alternationAfter_eq] at h
  split at h
  · obtain ⟨dueB, rfl⟩ := turnPassed_some h
    exact ⟨dueB, 0, rfl, Nat.zero_le _⟩
  · cases h
    exact ⟨r.dueB, _, rfl, Nat.sub_le _ _⟩

theorem turn_keeps_stageSound {r : Alternation} {s : State} (hr : s.stage.alternation = some r) (h : StageSound s) :
    StageSound { s with stage.alternation := alternationAfter r } := by
  obtain ⟨hlayout, hbanks, hone, halternation⟩ := h
  obtain ⟨hne, ha, hb, hA, hA', hB, hB', hremaining⟩ := halternation r hr
  refine ⟨hlayout, hbanks, hone, fun r' hr' => ?_⟩
  obtain ⟨dueB, remaining, rfl, hbound⟩ := alternationAfter_some hr'
  exact ⟨hne, ha, hb, hA, hA', hB, hB', hbound.trans (holdLeft_le hA' hB' hremaining)⟩

theorem runResetBank_records (b : Bank) : (runResetBank b).records = b.records := by
  unfold runResetBank
  split <;> rfl

theorem runResetBank_state (b : Bank) :
    (runResetBank b).state = if b.state = .pending then .ready else b.state := by
  unfold runResetBank
  split <;> rfl

/-- A run reset makes the PENDING banks READY and ends the alternation (R146). -/
theorem resetStage_keeps_stageSound {s : State} (h : StageSound s) :
    StageSound { s with stage.banks := s.stage.banks.map runResetBank, stage.alternation := none } := by
  obtain ⟨hlayout, hbanks, hone, -⟩ := h
  have unmoved {st : BankState} (b : Fin 4) (hst : st ≠ .ready)
      (hb : ((s.stage.banks.map runResetBank).get b).state = st) : (s.stage.banks.get b).state = st := by
    rw [Quad.get_map, runResetBank_state] at hb
    split at hb
    · exact absurd hb.symm hst
    · exact hb
  refine ⟨hlayout, fun b => ?_, fun a b ha hb => hone a b (unmoved a (by decide) ha) (unmoved b (by decide) hb),
    alternationSound_none rfl⟩
  have hrecords : ((s.stage.banks.map runResetBank).get b).records = (s.stage.banks.get b).records := by
    rw [Quad.get_map, runResetBank_records]
  obtain ⟨hcapacity, hnil, hsound⟩ := hbanks b
  show BankSound _ ((s.stage.banks.map runResetBank).get b)
  refine ⟨?_, fun he => ?_, ?_⟩
  · rw [hrecords]
    exact hcapacity
  · rw [hrecords]
    exact hnil (unmoved b (by decide) he)
  · rw [hrecords]
    exact hsound

theorem fullReset_stageSound (c : ResetCause) (s : State) : StageSound (fullReset c s) := by
  have hempty (b : Fin 4) : StageUnit.reset.banks.get b = ⟨.empty, []⟩ := by fin_cases b <;> rfl
  have hlayout : LayoutSound StageUnit.reset.layout := by decide
  refine ⟨hlayout, fun b => ?_, fun a b ha => ?_, alternationSound_none rfl⟩
  · show BankSound _ (StageUnit.reset.banks.get b)
    rw [hempty]
    exact ⟨Nat.zero_le _, fun _ => rfl, by simp⟩
  · change (StageUnit.reset.banks.get a).state = _ at ha
    rw [hempty] at ha
    cases ha

/-- Every block's own updates keep the Stage Unit sound: most do not touch it. -/
theorem stageSound_kept : KeptByBlocks StageSound where
  free h _ _ _ hstage _ _ := stageSound_of_stage h hstage
  latch _ _ h := h
  takeBaselines _ _ h := stageSound_of_stage h (by unfold takeBaselines; split <;> rfl)
  stopSense _ h := h
  clearSense _ h := h
  senseSet _ _ _ h := h
  putShot i e s t _ ht _ h := by
    obtain ⟨u, rfl⟩ := putShot_onlyTable ht
    exact h
  putSeqStart i s t ht h := by
    obtain ⟨-, rfl⟩ := putSeqStart_cases ht
    exact h
  tableClear _ h := h
  closeRegs _ h := h
  clearRegs _ h := h
  resetRegs _ h := h
  figure _ _ _ _ h := h
  clip _ _ h := h
  regMode l m s h := stageSound_of_stage h (putRegMode_only l m s).stage
  regForce l d c s t ht h := by
    obtain ⟨-, rfl⟩ := putRegForce_cases ht
    exact h
  regBands _ _ _ _ h := h
  regLimits _ _ _ _ h := h
  clearFault _ _ h := stageSound_of_stage h (by unfold clearFault; split <;> rfl)
  lightDuty _ _ _ _ _ _ _ h := h
  lightOff _ _ h := h
  allLightsOff _ h := h
  beginFlash _ _ h := h
  cool _ h := stageSound_of_stage h (by unfold dutyTimerExpiry; split <;> rfl)
  setFaulted _ _ h := h
  passTime _ h := h
  startLights _ h := h
  append _ _ _ h := h
  lose _ h := h
  shrink _ _ _ h := h
  found _ h := h
  threshold _ _ _ _ h := h
  capture _ _ _ _ hopen hc h := capture_keeps_stageSound hopen hc h
  stageOpen p _ h := takeStageOpen_keeps_stageSound p h
  stageClose p _ h := takeStageClose_keeps_stageSound p h
  stageDrop p _ h := takeStageDrop_keeps_stageSound p h
  stageLayout p _ h := takeStageLayout_keeps_stageSound p h
  stageAlternate p _ h := takeStageAlternate_keeps_stageSound p h
  pend _ _ hready hrotation h := withState_keeps_stageSound h (by decide) (by decide)
    fun hnamed => absurd hnamed ((inRotation_eq_false_iff hready).mp hrotation)
  applied _ _ _ h := withState_keeps_stageSound h (by decide) (by decide) fun _ => rfl
  turn _ _ hr h := turn_keeps_stageSound hr h
  resetStage _ h := resetStage_keeps_stageSound h
  fullReset c s := fullReset_stageSound c s

/-- Settles O57: what every block's updates keep, every step keeps. -/
theorem stepKeepsStageSound : Obligations.StepKeepsStageSound :=
  fun _ _ h hstep => stageSound_kept.kept.step h hstep

end Sys2Proof.StageProofs
end

section
/-!
PROOFS. Capture and the captured record (07_staging_banks.md sections 7.3 and 7.5): what the capture checks ask, what a
stageable command comes to while a bank is OPEN, and that a record acts as its command does when taken in IDLE.
-/

namespace Sys2Proof.StageProofs

open Sys2Proof.Machine Sys2Proof.Safety Sys2Proof.ShotTableProofs Sys2Proof.RegulatorProofs

/-! ### The frame of a host command and its code (R161, R162) -/

theorem exec_hostFrame {i : Instr} {f : Frame} (h : i.hostFrame = some f) (s : State) :
    exec i s = event (arrive f) s := by
  cases i <;> cases h <;> rfl

theorem code_of_commandOfCode {code : Byte} {c : Command} (h : commandOfCode code = some c) : code = commandCode c := by
  have hfound := List.find?_some h
  exact (beq_iff_eq.mp hfound).symm

/-- The reply to a command that a code names carries that code plus 128 (R162). -/
theorem replyCode_of_commandOfCode {code : Byte} {c : Command} (h : commandOfCode code = some c) :
    replyCode code = code + 0x80#8 := by
  rw [code_of_commandOfCode h]
  cases c <;> rfl

/-- A host command's frame that arrives at a Ready part is executed and answered in its own event (R161). -/
theorem exec_frame_ready {i : Instr} {f : Frame} {c : Command} {s : State} (hi : i.hostFrame = some f)
    (hc : commandOfCode f.code = some c) (hlen : f.payload.length ≤ 250) (h : Ready s) :
    exec i s = .next (replied (f.code + 0x80#8) f.tag (executeCommand c f.payload s).reply
      (executeCommand c f.payload s).state) := by
  obtain ⟨hreset, hexecutor, hcommands, hreplies, hsettled⟩ := h
  rw [exec_hostFrame hi, event_arrive_ready hlen hreset hexecutor hcommands hreplies hsettled, answer, execute, hc,
    replyFrame, replyCode_of_commandOfCode hc]
  rfl

/-! ### Capture (R130) -/

section Capture

variable {b : Fin 4} {c : Command} {p : List Byte} {s : State}

theorem executeCommand_captures (hone : OneOpen s.stage) (hb : (s.stage.banks.get b).state = .opened)
    (hc : isStageable c = true) : executeCommand c p s = capture b c p s := by
  rw [executeCommand, openBank_of_opened hone hb]
  exact if_pos hc

theorem capture_refused {st : Status} (h : captureCheck c p = some st) : capture b c p s = refuse st s := by
  simp [capture, h]

theorem capture_full (h : captureCheck c p = none)
    (hfull : bankCapacity s.stage.layout b ≤ (s.stage.banks.get b).records.length) :
    capture b c p s = refuse .bankFull s := by
  simp [capture, h, Nat.not_lt.mpr hfull]

theorem capture_stored (h : captureCheck c p = none)
    (hroom : (s.stage.banks.get b).records.length < bankCapacity s.stage.layout b) :
    capture b c p s =
      ⟨setBank b ⟨(s.stage.banks.get b).state, (s.stage.banks.get b).records ++ [⟨commandCode c, p⟩]⟩ s,
       [1#8, bankCode b] ++ le1 ((s.stage.banks.get b).records.length + 1)⟩ := by
  simp [capture, h, hroom, statusCode]

end Capture

/-- Settles O24: the checks, then the room, then the record stored. -/
theorem stageableCaptured : Obligations.StageableCaptured := by
  intro i f c b s hi hcode hc hlen hready hone hb
  have hexec := exec_frame_ready hi hcode hlen hready
  rw [executeCommand_captures hone hb hc] at hexec
  refine ⟨fun st hcheck => ?_, fun hcheck hfull => ?_, fun hcheck hroom => ?_⟩
  · rw [hexec, capture_refused hcheck]
    rfl
  · rw [hexec, capture_full hcheck hfull]
    rfl
  · rw [hexec, capture_stored hcheck hroom, hb, ← code_of_commandOfCode hcode]
    rfl

/-! ### What the capture checks ask (R130) -/

section Checks

variable {α : Type} {n : Nat} {p : List Byte} {v : Option α}

theorem failureOf_sized_length (h : p.length ≠ n) : failureOf (sized n p v) = some .badLength := by
  simp [failureOf, sized, h]

theorem failureOf_sized_some (h : p.length = n) (a : α) : failureOf (sized n p (some a)) = none := by
  rw [sized_some h]
  rfl

theorem failureOf_sized_none (h : p.length = n) : failureOf (sized n p (none : Option α)) = some .badValue := by
  rw [sized_none h]
  rfl

/-- A payload of the right length passes or is BAD_VALUE (R162). -/
theorem failureOf_sized_cases (h : p.length = n) :
    failureOf (sized n p v) = none ∨ failureOf (sized n p v) = some .badValue := by
  cases v with
  | none => exact .inr (failureOf_sized_none h)
  | some a => exact .inl (failureOf_sized_some h a)

theorem failureOf_sized_badLength_iff : failureOf (sized n p v) = some .badLength ↔ p.length ≠ n := by
  refine ⟨fun hbad hlen => ?_, failureOf_sized_length⟩
  rcases failureOf_sized_cases (v := v) hlen with h | h <;> rw [h] at hbad <;> cases hbad

/-- A payload of the right length passes exactly when it has a value (R162). -/
theorem failureOf_sized_iff (h : p.length = n) : failureOf (sized n p v) = none ↔ v.isSome = true := by
  cases v with
  | none => simp [failureOf_sized_none h]
  | some a => simp [failureOf_sized_some h a]

theorem isSome_checked (ok : Bool) (a : α) : (checked ok a).isSome = ok := by cases ok <;> rfl

/-- A payload that begins with a light passes when there is that light and the rest passes its check (R98). -/
theorem lightPayload_iff {ok : Bool} (h : p.length = n)
    (hlight : ∀ l, lightOf (byteAt p 0) = some l → v.isSome = ok) (hnone : lightOf (byteAt p 0) = none → v = none) :
    failureOf (sized n p v) = none ↔ byteAt p 0 < 8 ∧ ok = true := by
  rw [failureOf_sized_iff h]
  by_cases hlt : byteAt p 0 < 8
  · rw [hlight ⟨_, hlt⟩ (dif_pos hlt)]
    exact (and_iff_right hlt).symm
  · rw [hnone (dif_neg hlt)]
    exact iff_of_false Bool.false_ne_true fun hboth => hlt hboth.1

end Checks

/-- The capture check of each kind is the length check of its payload and a value decoded from it (R130, R162). -/
theorem captureCheck_sized {c : Command} (h : isStageable c = true) (p : List Byte) :
    ∃ (α : Type) (v : Option α), captureCheck c p = failureOf (sized (payloadLength c) p v) := by
  cases c
  case shotPut | seqSelect | regMode | regForce | regBands | regLimits | lightDuty => exact ⟨_, _, rfl⟩
  all_goals cases h

theorem captureCheck_shotPut {p : List Byte} (h : p.length = 20) : captureCheck .shotPut p = none ↔
    byteAt p 0 ≤ 127 ∧ ∃ e, entryOf (p.drop 1) = some e ∧ entryValid e = true := by
  refine (failureOf_sized_iff h).trans ?_
  cases hentry : entryOf (p.drop 1) with
  | none => simp
  | some e => simp [isSome_checked]

theorem captureCheck_seqSelect {p : List Byte} (h : p.length = 1) :
    captureCheck .seqSelect p = none ↔ byteAt p 0 ≤ 127 := by
  refine (failureOf_sized_iff h).trans ?_
  simp [isSome_checked]

theorem regModeOf_isSome (n : Nat) : (regModeOf n).isSome = true ↔ n < 3 := by
  by_cases h : n < 3
  · interval_cases n <;> simp [regModeOf]
  · simp [regModeOf_none (Nat.not_lt.mp h), h]

theorem captureCheck_regMode {p : List Byte} (h : p.length = 2) :
    captureCheck .regMode p = none ↔ byteAt p 0 < 8 ∧ byteAt p 1 < 3 := by
  refine (failureOf_sized_iff h).trans ?_
  rw [← regModeOf_isSome]
  by_cases hlight : byteAt p 0 < 8
  · cases regModeOf (byteAt p 1) <;> simp [lightOf, hlight]
  · simp [lightOf, hlight]

theorem captureCheck_regForce {p : List Byte} (h : p.length = 5) : captureCheck .regForce p = none ↔
    byteAt p 0 < 8 ∧ 1 ≤ word16At p 1 ∧ word16At p 1 ≤ 20000 ∧ word16At p 3 ≤ 1023 := by
  refine (lightPayload_iff h (fun l hl => ?_) fun hl => ?_).trans ?_ (b := byteAt p 0 < 8 ∧
    (decide (1 ≤ word16At p 1) && decide (word16At p 1 ≤ 20000) && decide (word16At p 3 ≤ 1023)) = true)
  · rw [hl]
    exact isSome_checked _ _
  · rw [hl]
  · simp only [Bool.and_eq_true, decide_eq_true_eq, and_assoc]

theorem captureCheck_regBands {p : List Byte} (h : p.length = 17) :
    captureCheck .regBands p = none ↔ byteAt p 0 < 8 ∧ bandsValid (bandsAt p) = true := by
  refine lightPayload_iff h (fun l hl => ?_) fun hl => ?_ <;> rw [hl]
  exact isSome_checked _ _

theorem captureCheck_regLimits {p : List Byte} (h : p.length = 15) :
    captureCheck .regLimits p = none ↔ byteAt p 0 < 8 ∧ limitsValid (limitsAt p) = true := by
  refine lightPayload_iff h (fun l hl => ?_) fun hl => ?_ <;> rw [hl]
  exact isSome_checked _ _

theorem captureCheck_lightDuty {p : List Byte} (h : p.length = 7) : captureCheck .lightDuty p = none ↔
    byteAt p 0 < 8 ∧ 1 ≤ word32At p 1 ∧ word32At p 1 ≤ 4000000 := by
  refine (lightPayload_iff h (fun l hl => ?_) fun hl => ?_).trans ?_ (b := byteAt p 0 < 8 ∧
    (decide (1 ≤ word32At p 1) && decide (word32At p 1 ≤ 4000000)) = true)
  · rw [hl]
    exact isSome_checked _ _
  · rw [hl]
  · simp only [Bool.and_eq_true, decide_eq_true_eq]

/-- Settles O25: the length of every kind, then the values of each. -/
theorem captureChecks : Obligations.CaptureChecks := by
  intro p
  refine ⟨fun c hc => ?_, fun c hc hlen => ?_, captureCheck_shotPut, captureCheck_seqSelect, captureCheck_regMode,
    captureCheck_regForce, captureCheck_regBands, captureCheck_regLimits, captureCheck_lightDuty⟩
  · obtain ⟨α, v, hcheck⟩ := captureCheck_sized hc p
    rw [hcheck]
    exact failureOf_sized_badLength_iff
  · obtain ⟨α, v, hcheck⟩ := captureCheck_sized hc p
    rw [hcheck]
    exact failureOf_sized_cases hlen

/-! ### A captured record and its command (R136, R137) -/

/-- A command taken directly and its record applied come to the same: the command is accepted and the record leaves the
command's state, or the command is BAD_VALUE and the record is skipped. -/
def ActsAlike (taken : Taken) (applied : Option State) : Prop :=
  (∃ t fields, taken = accept t fields ∧ applied = some t) ∨ (∃ t, taken = refuse .badValue t ∧ applied = none)

theorem actsAlike_accept (t : State) (fields : List Byte) : ActsAlike (accept t fields) (some t) :=
  .inl ⟨t, fields, rfl, rfl⟩

theorem actsAlike_refuse (t : State) : ActsAlike (refuse .badValue t) none := .inr ⟨t, rfl, rfl⟩

theorem ok_of_failureOf {α : Type} {r : Except Status α} (h : failureOf r = none) : ∃ a, r = .ok a := by
  cases r with
  | ok a => exact ⟨a, rfl⟩
  | error st => cases h

section Idle

variable {p : List Byte} {s : State}

theorem shotPut_actsAlike (hidle : s.run.state = .idle) (h : captureCheck .shotPut p = none) :
    ActsAlike (takeShotPut p s) (applyRecord ⟨commandCode .shotPut, p⟩ s) := by
  obtain ⟨⟨i, e⟩, hp⟩ := ok_of_failureOf (r := parseShotPut p) h
  have happlied : applyRecord ⟨commandCode .shotPut, p⟩ s = putShot i e s := by
    simp [applyRecord, commandOfCode_commandCode, hp]
  rw [happlied]
  cases hput : putShot i e s with
  | none => simpa [takeShotPut, hp, hidle, tableWritable, hput] using actsAlike_refuse s
  | some t => simpa [takeShotPut, hp, hidle, tableWritable, hput] using actsAlike_accept t _

theorem seqSelect_actsAlike (hidle : s.run.state = .idle) (h : captureCheck .seqSelect p = none) :
    ActsAlike (takeSeqSelect p s) (applyRecord ⟨commandCode .seqSelect, p⟩ s) := by
  obtain ⟨i, hp⟩ := ok_of_failureOf (r := parseSeqSelect p) h
  have happlied : applyRecord ⟨commandCode .seqSelect, p⟩ s = putSeqStart i s := by
    simp [applyRecord, commandOfCode_commandCode, hp]
  rw [happlied]
  cases hput : putSeqStart i s with
  | none => simpa [takeSeqSelect, hp, hidle, tableWritable, hput] using actsAlike_refuse s
  | some t => simpa [takeSeqSelect, hp, hidle, tableWritable, hput] using actsAlike_accept t _

theorem regForce_actsAlike (h : captureCheck .regForce p = none) :
    ActsAlike (takeRegForce p s) (applyRecord ⟨commandCode .regForce, p⟩ s) := by
  obtain ⟨⟨l, duration, current⟩, hp⟩ := ok_of_failureOf (r := parseRegForce p) h
  have happlied : applyRecord ⟨commandCode .regForce, p⟩ s = putRegForce l duration current s := by
    simp [applyRecord, commandOfCode_commandCode, hp]
  rw [happlied]
  cases hput : putRegForce l duration current s with
  | none => simpa [takeRegForce, hp, hput] using actsAlike_refuse s
  | some t => simpa [takeRegForce, hp, hput] using actsAlike_accept t _

/-- REG_MODE, REG_BANDS, REG_LIMITS and LIGHT_DUTY are checked by their payload alone: their records always apply. -/
theorem regMode_actsAlike (h : captureCheck .regMode p = none) :
    ActsAlike (takeRegMode p s) (applyRecord ⟨commandCode .regMode, p⟩ s) := by
  obtain ⟨⟨l, m⟩, hp⟩ := ok_of_failureOf (r := parseRegMode p) h
  simpa [takeRegMode, applyRecord, commandOfCode_commandCode, hp] using actsAlike_accept (putRegMode l m s) _

theorem regBands_actsAlike (h : captureCheck .regBands p = none) :
    ActsAlike (takeRegBands p s) (applyRecord ⟨commandCode .regBands, p⟩ s) := by
  obtain ⟨⟨l, b⟩, hp⟩ := ok_of_failureOf (r := parseRegBands p) h
  simpa [takeRegBands, applyRecord, commandOfCode_commandCode, hp] using actsAlike_accept (putRegBands l b s) _

theorem regLimits_actsAlike (h : captureCheck .regLimits p = none) :
    ActsAlike (takeRegLimits p s) (applyRecord ⟨commandCode .regLimits, p⟩ s) := by
  obtain ⟨⟨l, m⟩, hp⟩ := ok_of_failureOf (r := parseRegLimits p) h
  simpa [takeRegLimits, applyRecord, commandOfCode_commandCode, hp] using actsAlike_accept (putRegLimits l m s) _

theorem lightDuty_actsAlike (h : captureCheck .lightDuty p = none) :
    ActsAlike (takeLightDuty p s) (applyRecord ⟨commandCode .lightDuty, p⟩ s) := by
  obtain ⟨⟨l, limit, rate⟩, hp⟩ := ok_of_failureOf (r := parseLightDuty p) h
  simpa [takeLightDuty, applyRecord, commandOfCode_commandCode, hp] using
    actsAlike_accept (putLightDuty l limit rate s) _

/-- A record that passed its capture checks acts as its command taken directly in IDLE (R136). -/
theorem record_actsAlike {c : Command} (hidle : s.run.state = .idle) (hc : isStageable c = true)
    (h : captureCheck c p = none) : ActsAlike (executeDirect c p s) (applyRecord ⟨commandCode c, p⟩ s) := by
  cases c
  case shotPut => exact shotPut_actsAlike hidle h
  case seqSelect => exact seqSelect_actsAlike hidle h
  case regMode => exact regMode_actsAlike h
  case regForce => exact regForce_actsAlike h
  case regBands => exact regBands_actsAlike h
  case regLimits => exact regLimits_actsAlike h
  case lightDuty => exact lightDuty_actsAlike h
  all_goals cases hc

end Idle

/-- What a record does, it does in any state of the run (R137). -/
theorem applyRecord_run (r : StageRecord) (u : RunController) (s : State) :
    applyRecord r { s with run := u } = (applyRecord r s).map fun t => { t with run := u } := by
  unfold applyRecord putShot putSeqStart putRegMode putRegForce
  repeat' split
  all_goals rfl

/-- Settles O30: the command and its record act alike in IDLE, and the record does not read the run. -/
theorem recordActsAsItsCommand : Obligations.RecordActsAsItsCommand := by
  refine fun c p s hc hcheck => ⟨fun hidle => ?_, fun r => applyRecord_run _ r s⟩
  rcases record_actsAlike hidle hc hcheck with ⟨t, fields, htaken, happlied⟩ | ⟨t, htaken, happlied⟩
  · rw [htaken, happlied]
    exact ⟨fun _ _ => rfl, fun hreply => (by cases hreply), .inr ⟨fields, rfl⟩⟩
  · rw [htaken, happlied]
    exact ⟨fun _ hreply => (by cases hreply), fun _ => rfl, .inl rfl⟩

end Sys2Proof.StageProofs
end

section
/-!
PROOFS. The STAGE commands (07_staging_banks.md sections 7.2, 7.4 and 7.6): what each payload decodes to, what each
command does when a Ready part takes it, and the settled statements about them.
-/

namespace Sys2Proof.StageProofs

open Sys2Proof.Machine Sys2Proof.Safety Sys2Proof.ShotTableProofs Sys2Proof.RunControlProofs Sys2Proof.RegulatorProofs

/-! ### The commands at a Ready part (R161) -/

section Ready

variable {tag : Byte} {p : List Byte} {s : State}

theorem stageOpen_ready (h : Ready s) (hp : p.length ≤ 250) :
    exec (.stageOpen tag p) s = .next (replied 0xC0#8 tag (takeStageOpen p s).reply (takeStageOpen p s).state) :=
  hostCommand_unstageable h hp rfl

theorem stageClose_ready (h : Ready s) (hp : p.length ≤ 250) :
    exec (.stageClose tag p) s = .next (replied 0xC1#8 tag (takeStageClose p s).reply (takeStageClose p s).state) :=
  hostCommand_unstageable h hp rfl

theorem stageLaunch_ready (h : Ready s) (hp : p.length ≤ 250) :
    exec (.stageLaunch tag p) s = .next (replied 0xC2#8 tag (takeStageLaunch p s).reply (takeStageLaunch p s).state) :=
  hostCommand_unstageable h hp rfl

theorem stageDrop_ready (h : Ready s) (hp : p.length ≤ 250) :
    exec (.stageDrop tag p) s = .next (replied 0xC3#8 tag (takeStageDrop p s).reply (takeStageDrop p s).state) :=
  hostCommand_unstageable h hp rfl

theorem stageLayout_ready (h : Ready s) (hp : p.length ≤ 250) :
    exec (.stageLayout tag p) s = .next (replied 0xC4#8 tag (takeStageLayout p s).reply (takeStageLayout p s).state) :=
  hostCommand_unstageable h hp rfl

theorem stageAlternate_ready (h : Ready s) (hp : p.length ≤ 250) :
    exec (.stageAlternate tag p) s =
      .next (replied 0xC5#8 tag (takeStageAlternate p s).reply (takeStageAlternate p s).state) :=
  hostCommand_unstageable h hp rfl

theorem stageGet_ready (h : Ready s) (hp : p.length ≤ 250) :
    exec (.stageGet tag p) s = .next (replied 0xC6#8 tag (takeStageGet p s).reply (takeStageGet p s).state) :=
  hostCommand_unstageable h hp rfl

end Ready

/-! ### A payload of one bank number (R183) -/

theorem bankAt_code (b : Fin 4) : bankOf (bankCode b).toNat = some b := by simp [bankCode]

theorem parseBank_code (b : Fin 4) : parseBank [bankCode b] = .ok b := by
  have hbank : bankOf (byteAt [bankCode b] 0) = some b := bankAt_code b
  rw [parseBank, hbank]
  rfl

theorem parseBank_noBank {x : Byte} (h : 4 ≤ x.toNat) : parseBank [x] = .error .badValue := by
  have hbank : bankOf (byteAt [x] 0) = none := bankOf_none h
  rw [parseBank, hbank]
  rfl

/-- A READY bank is out of rotation exactly when the alternation does not name it (R128). -/
theorem readyFree_iff (u : StageUnit) (b : Fin 4) :
    ((u.banks.get b).state = .ready ∧ inRotation u b = false) ↔ (u.banks.get b).state = .ready ∧ ¬Named u b :=
  and_congr_right fun hready => inRotation_eq_false_iff hready

/-! ### STAGE_OPEN (R129) and STAGE_DROP (R135) -/

section Banks

variable {b : Fin 4} {x : Byte} {s : State}

/-- The banks that STAGE_OPEN opens (R129). -/
abbrev Openable (u : StageUnit) (b : Fin 4) : Prop :=
  (∀ a, (u.banks.get a).state ≠ .opened) ∧
  ((u.banks.get b).state = .empty ∨ ((u.banks.get b).state = .ready ∧ ¬Named u b))

theorem openable_iff (u : StageUnit) (b : Fin 4) :
    (openBank u = none ∧
      ((u.banks.get b).state = .empty ∨ ((u.banks.get b).state = .ready ∧ inRotation u b = false))) ↔ Openable u b := by
  rw [openBank_eq_none_iff, readyFree_iff]

theorem takeStageOpen_opens (h : Openable s.stage b) :
    takeStageOpen [bankCode b] s =
      accept (setBank b ⟨.opened, []⟩ s) ([bankCode b, 1#8] ++ le1 (bankCapacity s.stage.layout b)) := by
  rw [takeStageOpen, parseBank_code]
  exact if_pos ((openable_iff _ b).mpr h)

theorem takeStageOpen_refused (h : ¬Openable s.stage b) : takeStageOpen [bankCode b] s = refuse .bankState s := by
  rw [takeStageOpen, parseBank_code]
  exact if_neg (mt (openable_iff _ b).mp h)

theorem takeStageOpen_noBank (h : 4 ≤ x.toNat) : takeStageOpen [x] s = refuse .badValue s := by
  rw [takeStageOpen, parseBank_noBank h]

theorem takeStageDrop_pending (h : (s.stage.banks.get b).state = .pending) :
    takeStageDrop [bankCode b] s =
      accept (setBank b ⟨.ready, (s.stage.banks.get b).records⟩ s) [bankCode b, 2#8] := by
  rw [takeStageDrop, parseBank_code]
  exact if_pos h

/-- The banks that STAGE_DROP empties (R135). -/
abbrev Droppable (u : StageUnit) (b : Fin 4) : Prop :=
  (u.banks.get b).state = .opened ∨ ((u.banks.get b).state = .ready ∧ ¬Named u b)

theorem droppable_iff (u : StageUnit) (b : Fin 4) :
    ((u.banks.get b).state = .opened ∨ ((u.banks.get b).state = .ready ∧ inRotation u b = false)) ↔ Droppable u b := by
  rw [readyFree_iff]

theorem takeStageDrop_empties (h : Droppable s.stage b) :
    takeStageDrop [bankCode b] s = accept (setBank b ⟨.empty, []⟩ s) [bankCode b, 0#8] := by
  have hnot : (s.stage.banks.get b).state ≠ .pending := by
    rcases h with hb | ⟨hb, -⟩ <;> rw [hb] <;> decide
  rw [takeStageDrop, parseBank_code]
  exact (if_neg hnot).trans (if_pos ((droppable_iff _ b).mpr h))

theorem takeStageDrop_refused (hnot : (s.stage.banks.get b).state ≠ .pending) (h : ¬Droppable s.stage b) :
    takeStageDrop [bankCode b] s = refuse .bankState s := by
  rw [takeStageDrop, parseBank_code]
  exact (if_neg hnot).trans (if_neg (mt (droppable_iff _ b).mp h))

theorem takeStageDrop_noBank (h : 4 ≤ x.toNat) : takeStageDrop [x] s = refuse .badValue s := by
  rw [takeStageDrop, parseBank_noBank h]

/-! ### STAGE_LAUNCH (R133, R140) -/

theorem takeStageLaunch_atOnce (hready : (s.stage.banks.get b).state = .ready) (hfree : ¬Named s.stage b)
    (hrun : s.run.state = .idle ∨ s.run.state = .armed) :
    takeStageLaunch [bankCode b] s =
      accept (applyBank b s).state
        ([bankCode b, 2#8] ++ le1 (applyBank b s).applied ++ le1 (applyBank b s).skipped) := by
  rw [takeStageLaunch, parseBank_code]
  exact (if_pos ((readyFree_iff _ b).mpr ⟨hready, hfree⟩)).trans (if_pos hrun)

theorem takeStageLaunch_pends (hready : (s.stage.banks.get b).state = .ready) (hfree : ¬Named s.stage b)
    (hrun : ¬(s.run.state = .idle ∨ s.run.state = .armed)) :
    takeStageLaunch [bankCode b] s =
      accept (setBank b ⟨.pending, (s.stage.banks.get b).records⟩ s) [bankCode b, 3#8, 0#8, 0#8] := by
  rw [takeStageLaunch, parseBank_code]
  exact (if_pos ((readyFree_iff _ b).mpr ⟨hready, hfree⟩)).trans (if_neg hrun)

theorem takeStageLaunch_refused (h : ¬((s.stage.banks.get b).state = .ready ∧ ¬Named s.stage b)) :
    takeStageLaunch [bankCode b] s = refuse .bankState s := by
  rw [takeStageLaunch, parseBank_code]
  exact if_neg (mt (readyFree_iff _ b).mp h)

theorem takeStageLaunch_noBank (h : 4 ≤ x.toNat) : takeStageLaunch [x] s = refuse .badValue s := by
  rw [takeStageLaunch, parseBank_noBank h]

/-! ### STAGE_CLOSE (R132) -/

theorem takeStageClose_closes (hone : OneOpen s.stage) (hb : (s.stage.banks.get b).state = .opened) :
    takeStageClose [] s =
      accept (setBank b ⟨.ready, (s.stage.banks.get b).records⟩ s)
        (bankCode b :: le1 (s.stage.banks.get b).records.length) := by
  have hopen := openBank_of_opened hone hb
  simp [takeStageClose, parseNothing, sized, hopen]

theorem takeStageClose_noOpen (h : NoOpen s) : takeStageClose [] s = refuse .bankState s := by
  have hopen := (openBank_eq_none_iff _).mpr h
  simp [takeStageClose, parseNothing, sized, hopen]

theorem takeStageClose_payload {p : List Byte} (h : p ≠ []) : takeStageClose p s = refuse .badLength s := by
  simp [takeStageClose, parseNothing, sized, h]

end Banks

theorem execute_stageClose (tag : Byte) (p : List Byte) (s : State) :
    execute ⟨0x41#8, tag, p⟩ s = takeStageClose p s :=
  executeCommand_unstageable (c := .stageClose) rfl

/-- Settles O27: with a bank OPEN, with none, and with a payload. -/
theorem stageCloseEffect : Obligations.StageCloseEffect := by
  refine ⟨fun tag b s hone hb => ⟨?_, fun hready => ?_⟩, fun tag s hopen => ?_, fun tag p s hp => ?_⟩
  · rw [execute_stageClose, takeStageClose_closes hone hb]
    rfl
  · rw [stageClose_ready hready (by simp), takeStageClose_closes hone hb]
    rfl
  · rw [execute_stageClose, takeStageClose_noOpen hopen]
    rfl
  · rw [execute_stageClose, takeStageClose_payload hp]
    rfl

/-- Settles O26: each command by the state of the bank, and by the number that names none. -/
theorem banksOpenedAndDropped : Obligations.BanksOpenedAndDropped := by
  intro tag b s hready
  have openResult := stageOpen_ready (tag := tag) (p := [bankCode b]) hready (by simp)
  have dropResult := stageDrop_ready (tag := tag) (p := [bankCode b]) hready (by simp)
  refine ⟨fun hopen hstate => ?_, fun hstate => ?_, fun hpending => ?_, fun hstate => ?_, fun hstate => ?_,
    fun x hx => ⟨?_, ?_, ?_⟩⟩
  · rw [openResult, takeStageOpen_opens ⟨hopen, hstate⟩]
    rfl
  · rw [openResult, takeStageOpen_refused ?_]
    · rfl
    · rintro ⟨hopen, hempty | ⟨hrdy, hfree⟩⟩
      · rcases hstate with hsome | hb | ⟨hb, -⟩
        · exact hsome hopen
        · exact absurd (hempty.symm.trans hb) (by decide)
        · exact absurd (hempty.symm.trans hb) (by decide)
      · rcases hstate with hsome | hb | ⟨-, hnamed⟩
        · exact hsome hopen
        · exact absurd (hrdy.symm.trans hb) (by decide)
        · exact hfree hnamed
  · rw [dropResult, takeStageDrop_pending hpending]
    rfl
  · rw [dropResult, takeStageDrop_empties hstate]
    rfl
  · rw [dropResult, takeStageDrop_refused ?_ ?_]
    · rfl
    · rcases hstate with hb | ⟨hb, -⟩ <;> rw [hb] <;> decide
    · rintro (hopened | ⟨hrdy, hfree⟩)
      · rcases hstate with hb | ⟨hb, -⟩ <;> exact absurd (hopened.symm.trans hb) (by decide)
      · rcases hstate with hb | ⟨-, hnamed⟩
        · exact absurd (hrdy.symm.trans hb) (by decide)
        · exact hfree hnamed
  · rw [stageOpen_ready hready (by simp), takeStageOpen_noBank hx]
    rfl
  · rw [stageDrop_ready hready (by simp), takeStageDrop_noBank hx]
    rfl
  · rw [stageLaunch_ready hready (by simp), takeStageLaunch_noBank hx]
    rfl

/-- Settles O28: a READY bank out of rotation by the run state, and any other bank. -/
theorem stageLaunchEffect : Obligations.StageLaunchEffect := by
  intro tag b s hready
  have launchResult := stageLaunch_ready (tag := tag) (p := [bankCode b]) hready (by simp)
  refine ⟨fun hb hfree => ⟨fun hrun => ?_, fun hidle harmed => ?_⟩, fun hb => ?_⟩
  · rw [launchResult, takeStageLaunch_atOnce hb hfree hrun]
    rfl
  · rw [launchResult, takeStageLaunch_pends hb hfree (by simp [hidle, harmed])]
    rfl
  · rw [launchResult, takeStageLaunch_refused (by tauto)]
    rfl

/-! ### STAGE_LAYOUT (R127) -/

theorem parseStageLayout_bytes {l : StageLayout} (h : LayoutSound l) :
    parseStageLayout (le1 l.start1 ++ le1 l.start2 ++ le1 l.start3) = .ok l := by
  obtain ⟨h12, h23, h3⟩ := id h
  have read (i n : Nat) (hn : n ≤ 64)
      (hi : (le1 l.start1 ++ le1 l.start2 ++ le1 l.start3).getD i 0#8 = BitVec.ofNat 8 n) :
      byteAt (le1 l.start1 ++ le1 l.start2 ++ le1 l.start3) i = n := byteAt_of_getD (by omega) hi
  rw [parseStageLayout, read 0 l.start1 (by omega) rfl, read 1 l.start2 (by omega) rfl, read 2 l.start3 h3 rfl]
  refine (sized_checked rfl _ _).trans (if_pos ?_)
  simpa [and_assoc] using h

theorem parseStageLayout_unordered {x y z : Byte} (h : ¬(x.toNat ≤ y.toNat ∧ y.toNat ≤ z.toNat ∧ z.toNat ≤ 64)) :
    parseStageLayout [x, y, z] = .error .badValue := by
  refine (sized_checked rfl _ _).trans (if_neg ?_)
  simpa [byteAt, and_assoc] using h

section Layout

variable {l : StageLayout} {s : State}

theorem takeStageLayout_stores (hl : LayoutSound l) (hempty : ∀ b, (s.stage.banks.get b).state = .empty)
    (hnone : s.stage.alternation = none) :
    takeStageLayout (le1 l.start1 ++ le1 l.start2 ++ le1 l.start3) s =
      accept { s with stage.layout := l } (layoutBytes l) := by
  rw [takeStageLayout, parseStageLayout_bytes hl]
  exact if_pos ⟨(allEmpty_iff _).mpr hempty, hnone⟩

theorem takeStageLayout_refused (hl : LayoutSound l)
    (h : (∃ b, (s.stage.banks.get b).state ≠ .empty) ∨ s.stage.alternation ≠ none) :
    takeStageLayout (le1 l.start1 ++ le1 l.start2 ++ le1 l.start3) s = refuse .bankState s := by
  rw [takeStageLayout, parseStageLayout_bytes hl]
  refine if_neg fun ⟨hempty, hnone⟩ => ?_
  rcases h with ⟨b, hb⟩ | hsome
  · exact hb ((allEmpty_iff _).mp hempty b)
  · exact hsome hnone

end Layout

/-! ### STAGE_ALTERNATE (R141, R142) -/

/-- The record that STAGE_ALTERNATE sets: a's hold is due, and none has begun (R141). -/
def alternationSet (a b : Fin 4) (m n : Byte) (rep : Bool) : Alternation :=
  { a := a, b := b, periodA := m.toNat, periodB := n.toNat, repeats := rep, dueB := false, remaining := 0 }

theorem parseStageAlternate_fields (a b : Fin 4) (m n : Byte) (rep : Bool) :
    parseStageAlternate [bankCode a, bankCode b, m, n, boolCode rep] =
      if m.toNat = 0 ∧ n.toNat = 0 then .ok none
      else if 1 ≤ m.toNat ∧ 1 ≤ n.toNat ∧ a ≠ b then .ok (some (alternationSet a b m n rep))
      else .error .badValue := by
  have ha : bankOf (byteAt [bankCode a, bankCode b, m, n, boolCode rep] 0) = some a := bankAt_code a
  have hb : bankOf (byteAt [bankCode a, bankCode b, m, n, boolCode rep] 1) = some b := bankAt_code b
  have hrep : boolOf (byteAt [bankCode a, bankCode b, m, n, boolCode rep] 4) = some rep := boolOf_code rep
  rw [parseStageAlternate, ha, hb, hrep]
  by_cases hclear : m.toNat = 0 ∧ n.toNat = 0
  · simp [byteAt, hclear, sized]
  · rw [if_neg hclear]
    simp only [byteAt, List.getD_cons_succ, List.getD_cons_zero, hclear, if_false]
    refine (sized_checked rfl _ _).trans ?_
    simp only [Bool.and_eq_true, decide_eq_true_eq, and_assoc, alternationSet]

/-- A bank number from 4 up or a repeat from 2 up is BAD_VALUE (R141, R183). -/
theorem parseStageAlternate_undefined {x y m n w : Byte} (h : 4 ≤ x.toNat ∨ 4 ≤ y.toNat ∨ 2 ≤ w.toNat) :
    parseStageAlternate [x, y, m, n, w] = .error .badValue := by
  have hnone : bankOf (byteAt [x, y, m, n, w] 0) = none ∨ bankOf (byteAt [x, y, m, n, w] 1) = none ∨
      boolOf (byteAt [x, y, m, n, w] 4) = none :=
    h.imp bankOf_none (Or.imp bankOf_none boolOf_none)
  unfold parseStageAlternate
  split
  · simp_all
  · rfl

theorem takeStageAlternate_refused {p : List Byte} {st : Status} (s : State) (h : parseStageAlternate p = .error st) :
    takeStageAlternate p s = refuse st s := by
  rw [takeStageAlternate, h]

theorem takeStageAlternate_clears {p : List Byte} (s : State) (h : parseStageAlternate p = .ok none) :
    takeStageAlternate p s = accept { s with stage.alternation := none } (alternationBytes none) := by
  rw [takeStageAlternate, h]

theorem takeStageAlternate_sets {p : List Byte} {r : Alternation} {s : State} (h : parseStageAlternate p = .ok (some r))
    (hready : (s.stage.banks.get r.a).state = .ready ∧ (s.stage.banks.get r.b).state = .ready) :
    takeStageAlternate p s = accept { s with stage.alternation := some r } (alternationBytes (some r)) := by
  rw [takeStageAlternate, h]
  exact if_pos hready

theorem takeStageAlternate_notReady {p : List Byte} {r : Alternation} {s : State}
    (h : parseStageAlternate p = .ok (some r))
    (hnot : ¬((s.stage.banks.get r.a).state = .ready ∧ (s.stage.banks.get r.b).state = .ready)) :
    takeStageAlternate p s = refuse .bankState s := by
  rw [takeStageAlternate, h]
  exact if_neg hnot

theorem toNat_pos_of_ne_zero {m : Byte} (h : m ≠ 0#8) : 1 ≤ m.toNat :=
  Nat.one_le_iff_ne_zero.mpr fun hzero => h (BitVec.eq_of_toNat_eq hzero)

theorem parseStageAlternate_set {a b : Fin 4} {m n : Byte} (rep : Bool) (hm : m ≠ 0#8) (hn : n ≠ 0#8) (hab : a ≠ b) :
    parseStageAlternate [bankCode a, bankCode b, m, n, boolCode rep] = .ok (some (alternationSet a b m n rep)) := by
  have hm' := toNat_pos_of_ne_zero hm
  rw [parseStageAlternate_fields, if_neg (by omega), if_pos ⟨hm', toNat_pos_of_ne_zero hn, hab⟩]

/-- A record of one bank twice, or with one period of 0, is BAD_VALUE (R141 check 3). -/
theorem parseStageAlternate_illFormed {a b : Fin 4} {m n : Byte} (rep : Bool) (hset : m ≠ 0#8 ∨ n ≠ 0#8)
    (h : m = 0#8 ∨ n = 0#8 ∨ a = b) :
    parseStageAlternate [bankCode a, bankCode b, m, n, boolCode rep] = .error .badValue := by
  have hclear : ¬(m.toNat = 0 ∧ n.toNat = 0) := fun ⟨hm, hn⟩ =>
    hset.elim (· (BitVec.eq_of_toNat_eq hm)) (· (BitVec.eq_of_toNat_eq hn))
  rw [parseStageAlternate_fields, if_neg hclear, if_neg]
  rintro ⟨hm, hn, hab⟩
  rcases h with rfl | rfl | rfl
  · exact absurd hm (by decide)
  · exact absurd hn (by decide)
  · exact hab rfl

theorem alternationBytes_set (a b : Fin 4) (m n : Byte) (rep : Bool) :
    alternationBytes (some (alternationSet a b m n rep)) =
      [1#8, bankCode a, bankCode b, m, n, boolCode rep, bankCode a, 0#8] := by
  simp [alternationBytes, alternationSet, dueBank, le1]

/-! ### STAGE_GET (R145) -/

theorem length_alternationBytes (r : Option Alternation) : (alternationBytes r).length = 8 := by cases r <;> rfl

/-- STAGE_GET's fields before the alternation, byte by byte (R145). -/
def unitBytes (u : StageUnit) : List Byte :=
  layoutBytes u.layout ++
  [bankStateCode (u.banks.get 0).state, bankStateCode (u.banks.get 1).state,
   bankStateCode (u.banks.get 2).state, bankStateCode (u.banks.get 3).state] ++
  [BitVec.ofNat 8 (u.banks.get 0).records.length, BitVec.ofNat 8 (u.banks.get 1).records.length,
   BitVec.ofNat 8 (u.banks.get 2).records.length, BitVec.ofNat 8 (u.banks.get 3).records.length,
   boolCode (inRotation u 0), boolCode (inRotation u 1), boolCode (inRotation u 2), boolCode (inRotation u 3)]

theorem stageBytes_eq (u : StageUnit) : stageBytes u = unitBytes u ++ alternationBytes u.alternation := by
  simp [stageBytes, unitBytes, le1, Quad.get]

theorem stageBytes_take (u : StageUnit) :
    (stageBytes u).take 12 = layoutBytes u.layout ++
      [bankStateCode (u.banks.get 0).state, bankStateCode (u.banks.get 1).state,
       bankStateCode (u.banks.get 2).state, bankStateCode (u.banks.get 3).state] := by
  rw [stageBytes_eq, unitBytes, List.append_assoc]
  exact List.take_left' rfl

theorem stageBytes_drop (u : StageUnit) : (stageBytes u).drop 20 = alternationBytes u.alternation := by
  rw [stageBytes_eq]
  exact List.drop_left' rfl

theorem stageBytes_count (u : StageUnit) (b : Fin 4) :
    (stageBytes u)[12 + b.val]? = some (BitVec.ofNat 8 (u.banks.get b).records.length) := by
  rw [stageBytes_eq]
  fin_cases b <;> simp [unitBytes, layoutBytes, le1]

theorem stageBytes_rotation (u : StageUnit) (b : Fin 4) :
    (stageBytes u)[16 + b.val]? = some (boolCode (inRotation u b)) := by
  rw [stageBytes_eq]
  fin_cases b <;> simp [unitBytes, layoutBytes, le1]

theorem length_stageBytes (u : StageUnit) : (stageBytes u).length = 28 := by
  rw [stageBytes_eq, List.length_append, length_alternationBytes]
  rfl

/-- Settles O29: each command by what its payload decodes to and by the states of the banks it names. -/
theorem layoutAndAlternation : Obligations.LayoutAndAlternation := by
  intro tag s hready
  have alternateResult (x y m n w : Byte) :=
    stageAlternate_ready (tag := tag) (p := [x, y, m, n, w]) hready (show 5 ≤ 250 by omega)
  refine ⟨fun l hl => ⟨fun hempty hnone => ?_, fun hbusy => ?_⟩, fun a b rep => ?_,
    fun a b m n rep hm hn => ⟨fun hab ha hb => ?_, fun hab hnot => ?_, fun hab => ?_⟩,
    fun a b m rep hm => ⟨?_, ?_⟩, fun x y z hxyz => ?_, fun x y m n w hbad => ?_,
    stageBytes s.stage, ?_, length_stageBytes _, stageBytes_take _, stageBytes_count _,
    fun b => ⟨stageBytes_rotation _ b, inRotation_iff _ b⟩, fun hnone => ?_, fun r hr => ?_⟩
  · rw [stageLayout_ready hready (by simp), takeStageLayout_stores hl hempty hnone]
    rfl
  · rw [stageLayout_ready hready (by simp), takeStageLayout_refused hl hbusy]
    rfl
  · rw [alternateResult, takeStageAlternate_clears s (by rw [parseStageAlternate_fields]; exact if_pos ⟨rfl, rfl⟩)]
    rfl
  · rw [alternateResult, takeStageAlternate_sets (parseStageAlternate_set rep hm hn hab) ⟨ha, hb⟩, alternationBytes_set]
    rfl
  · rw [alternateResult, takeStageAlternate_notReady (parseStageAlternate_set rep hm hn hab) (not_and_or.mpr hnot)]
    rfl
  · rw [alternateResult, takeStageAlternate_refused s (parseStageAlternate_illFormed rep (.inl hm) (.inr (.inr hab)))]
    rfl
  · rw [alternateResult, takeStageAlternate_refused s
      (parseStageAlternate_illFormed rep (.inl hm) (.inr (.inl rfl)))]
    rfl
  · rw [alternateResult, takeStageAlternate_refused s (parseStageAlternate_illFormed rep (.inr hm) (.inl rfl))]
    rfl
  · rw [stageLayout_ready hready (by simp), takeStageLayout, parseStageLayout_unordered hxyz]
    rfl
  · rw [alternateResult, takeStageAlternate_refused s (parseStageAlternate_undefined hbad)]
    rfl
  · rw [stageGet_ready hready (by simp)]
    rfl
  · rw [stageBytes_drop, hnone]
    rfl
  · rw [stageBytes_drop, hr]
    rfl

end Sys2Proof.StageProofs
end

section
/-!
PROOFS. Applying banks (07_staging_banks.md sections 7.5 and 7.6): what one application counts, reports and leaves
alone, and which banks are applied at a cycle begin, in which order and with what left of the Stage Unit.
-/

namespace Sys2Proof.StageProofs

open Sys2Proof.Machine Sys2Proof.Safety Sys2Proof.BlocksProofs Sys2Proof.RunProofs Sys2Proof.RunControlProofs

/-! ### What one record changes (R136) -/

/-- From `s` to `t` nothing changed but the Shot Table, the regulators and the light channels. -/
def OnlyConfigured (s t : State) : Prop :=
  ∃ table regs lights, t = { s with table := table, regs := regs, lights := lights }

theorem OnlyConfigured.refl (s : State) : OnlyConfigured s s := ⟨s.table, s.regs, s.lights, rfl⟩

theorem OnlyConfigured.trans {s t u : State} (h : OnlyConfigured s t) (g : OnlyConfigured t u) :
    OnlyConfigured s u := by
  obtain ⟨_, _, _, rfl⟩ := h
  obtain ⟨_, _, _, rfl⟩ := g
  exact ⟨_, _, _, rfl⟩

/-- A light channel kept its heat and its fault latch, and did not go on. -/
structure ChannelKept (c d : LightChannel) : Prop where
  dark : c.firing = none → d.firing = none
  heat : d.heat = c.heat
  faulted : d.faulted = c.faulted

theorem ChannelKept.refl (c : LightChannel) : ChannelKept c c := ⟨id, rfl, rfl⟩

/-- From `s` to `t` the duty timer stayed as it was and every light channel was kept. -/
structure DriveKept (s t : State) : Prop where
  dutyTimer : t.lights.dutyTimer = s.lights.dutyTimer
  channel : ∀ l, ChannelKept (s.lights.channels.get l) (t.lights.channels.get l)

namespace DriveKept

theorem of_lights {s t : State} (h : t.lights = s.lights) : DriveKept s t :=
  ⟨by rw [h], fun l => by rw [h]; exact .refl _⟩

theorem refl (s : State) : DriveKept s s := of_lights rfl

theorem trans {s t u : State} (h : DriveKept s t) (g : DriveKept t u) : DriveKept s u :=
  ⟨g.dutyTimer.trans h.dutyTimer, fun l => ⟨(g.channel l).dark ∘ (h.channel l).dark,
    (g.channel l).heat.trans (h.channel l).heat, (g.channel l).faulted.trans (h.channel l).faulted⟩⟩

theorem updateLight {f : LightChannel → LightChannel} (hf : ∀ c, ChannelKept c (f c)) (l : Light) (s : State) :
    DriveKept s (updateLight l f s) := by
  refine ⟨rfl, fun j => ?_⟩
  simp only [Machine.updateLight, Octet.get_set]
  split
  · next hj => exact hj ▸ hf _
  · exact .refl _

theorem putRegMode (l : Light) (m : RegMode) (s : State) : DriveKept s (putRegMode l m s) := by
  have hoff (t : State) : DriveKept t (lightOff l t) :=
    updateLight (f := channelOff) (fun _ => ⟨fun _ => rfl, rfl, rfl⟩) l t
  have hmode : DriveKept s (updateReg l (withMode m) s) := of_lights rfl
  unfold Machine.putRegMode
  simp only
  split
  · exact hmode.trans (hoff _)
  · exact hmode

theorem applyRecord {r : StageRecord} {s t : State} (h : applyRecord r s = some t) : DriveKept s t := by
  rcases applyRecord_cases h with ⟨_, _, _, h⟩ | ⟨_, h⟩ | ⟨_, _, rfl⟩ | ⟨_, _, _, h⟩ | ⟨_, _, _, rfl⟩ |
    ⟨_, _, _, rfl⟩ | ⟨l, limit, rate, _, rfl⟩
  · obtain ⟨_, rfl⟩ := putShot_onlyTable h
    exact of_lights rfl
  · obtain ⟨-, rfl⟩ := putSeqStart_cases h
    exact of_lights rfl
  · exact putRegMode _ _ s
  · obtain ⟨-, rfl⟩ := putRegForce_cases h
    exact of_lights rfl
  · exact of_lights rfl
  · exact of_lights rfl
  · exact updateLight (f := fun c => { c with heatLimit := limit, coolRate := rate }) (fun _ => ⟨id, rfl, rfl⟩) l s

theorem applyBank (b : Fin 4) (s : State) : DriveKept s (applyBank b s).state :=
  .trans (applyRecords_keep (P := DriveKept s) (fun _ _ _ h hs => hs.trans (applyRecord h)) _ ⟨s, 0, 0⟩ (refl s))
    (of_lights (raise_lights _ _ _))

end DriveKept

theorem putRegMode_onlyConfigured (l : Light) (m : RegMode) (s : State) : OnlyConfigured s (putRegMode l m s) := by
  unfold putRegMode
  simp only
  split <;> exact ⟨_, _, _, rfl⟩

theorem applyRecord_onlyConfigured {r : StageRecord} {s t : State} (h : applyRecord r s = some t) :
    OnlyConfigured s t := by
  rcases applyRecord_cases h with ⟨_, _, _, h⟩ | ⟨_, h⟩ | ⟨_, _, rfl⟩ | ⟨_, _, _, h⟩ | ⟨_, _, _, rfl⟩ |
    ⟨_, _, _, rfl⟩ | ⟨_, _, _, _, rfl⟩
  · obtain ⟨_, rfl⟩ := putShot_onlyTable h
    exact ⟨_, _, _, rfl⟩
  · obtain ⟨-, rfl⟩ := putSeqStart_cases h
    exact ⟨_, _, _, rfl⟩
  · exact putRegMode_onlyConfigured _ _ s
  · obtain ⟨-, rfl⟩ := putRegForce_cases h
    exact ⟨_, _, _, rfl⟩
  all_goals exact ⟨_, _, _, rfl⟩

/-! ### One application (R136, R139) -/

theorem applyRecords_onlyConfigured (rs : List StageRecord) (s : State) :
    OnlyConfigured s (applyRecords rs s).state :=
  applyRecords_keep (P := OnlyConfigured s) (fun _ _ _ h hs => hs.trans (applyRecord_onlyConfigured h)) rs ⟨s, 0, 0⟩
    (.refl s)

/-- Each record taken is counted once, applied or skipped (R136). -/
theorem foldl_applyNext_counts : ∀ (rs : List StageRecord) (a : Application),
    (rs.foldl applyNext a).applied + (rs.foldl applyNext a).skipped = a.applied + a.skipped + rs.length
  | [], _ => rfl
  | r :: rs, a => by
    have hone : (applyNext a r).applied + (applyNext a r).skipped = a.applied + a.skipped + 1 := by
      unfold applyNext
      split <;> simp only <;> omega
    rw [List.foldl_cons, foldl_applyNext_counts rs, hone, List.length_cons]
    omega

/-- An application and its report, which carries the cycle number in force before it (R139). -/
theorem applyBank_eq (b : Fin 4) (s : State) :
    applyBank b s =
      { applyRecords (s.stage.banks.get b).records s with
        state := raise .stageApplied
          ([bankCode b] ++ le1 (applyRecords (s.stage.banks.get b).records s).applied ++
            le1 (applyRecords (s.stage.banks.get b).records s).skipped ++ le4 s.seq.cycleNumber)
          (applyRecords (s.stage.banks.get b).records s).state } := by
  have hseq : (applyRecords (s.stage.banks.get b).records s).state.seq = s.seq := by
    obtain ⟨_, _, _, hstate⟩ := applyRecords_onlyConfigured (s.stage.banks.get b).records s
    rw [hstate]
  rw [applyBank, stageAppliedPayload, hseq]

/-- Settles O31: the application by its records, then what its records count, keep and leave alone. -/
theorem bankApplied : Obligations.BankApplied := by
  intro b s
  have hundisturbed := Undisturbed.applyBank b s
  have hdrive := DriveKept.applyBank b s
  refine ⟨applyBank_eq b s, (foldl_applyNext_counts _ ⟨s, 0, 0⟩).trans (Nat.zero_add _),
    ⟨(applyRecords (s.stage.banks.get b).records s).state, ?_, congrArg Application.state (applyBank_eq b s)⟩,
    hundisturbed.count, hdrive.dutyTimer, hundisturbed.start,
    fun l => ⟨(hdrive.channel l).dark, (hdrive.channel l).heat, (hdrive.channel l).faulted⟩⟩
  obtain ⟨_, _, _, hstate⟩ := applyRecords_onlyConfigured (s.stage.banks.get b).records s
  rw [hstate]

/-! ### The alternation's part of a cycle begin (R143) -/

theorem alternationAfter_goesOn {r : Alternation} (h : 1 < holdLeft r) :
    alternationAfter r = some { r with remaining := holdLeft r - 1 } := by
  rw [alternationAfter_eq, if_neg (by omega)]

theorem alternationAfter_ends {r : Alternation} (h : holdLeft r ≤ 1) : alternationAfter r = turnPassed r := by
  rw [alternationAfter_eq, if_pos (by omega)]

theorem holdLeft_begun {r : Alternation} (h : r.remaining ≠ 0) : holdLeft r = r.remaining := if_neg h

theorem holdLeft_a {r : Alternation} (h : r.remaining = 0) (hdue : r.dueB = false) : holdLeft r = r.periodA := by
  simp [holdLeft, h, hdue]

theorem holdLeft_b {r : Alternation} (h : r.remaining = 0) (hdue : r.dueB = true) : holdLeft r = r.periodB := by
  simp [holdLeft, h, hdue]

theorem turnPassed_a {r : Alternation} (h : r.dueB = false) :
    turnPassed r = some { r with dueB := true, remaining := 0 } := by
  simp [turnPassed, h]

theorem turnPassed_b {r : Alternation} (h : r.dueB = true) :
    turnPassed r = if r.repeats then some { r with dueB := false, remaining := 0 } else none := by
  simp [turnPassed, h]

/-- The state after the alternation's due bank was applied, where a hold starts (R143). -/
def alternated (s : State) : State :=
  match s.stage.alternation with
  | some r => if r.remaining = 0 then (applyBank (dueBank r) s).state else s
  | none => s

theorem alternated_none {s : State} (h : s.stage.alternation = none) : alternated s = s := by
  simp [alternated, h]

theorem alternated_some {r : Alternation} {s : State} (h : s.stage.alternation = some r) :
    alternated s = if r.remaining = 0 then (applyBank (dueBank r) s).state else s := by
  simp [alternated, h]

@[simp] theorem alternated_stage (s : State) : (alternated s).stage = s.stage := by
  unfold alternated
  split
  · split
    · exact (applyBank_only _ s).stage
    · rfl
  · rfl

theorem alternationStep_eq (s : State) :
    alternationStep s =
      { alternated s with stage := { s.stage with alternation := s.stage.alternation.bind alternationAfter } } := by
  cases h : s.stage.alternation with
  | none =>
    rw [alternationStep, h, alternated_none h]
    show s = { s with stage := { s.stage with alternation := none } }
    rw [← h]
  | some r =>
    have hstage := alternated_stage s
    rw [alternated_some h] at hstage
    simp [alternationStep, alternated_some h, h, hstage]

/-! ### The PENDING banks at a cycle begin (R138) -/

/-- A bank after a cycle begin: READY when it was PENDING (R138). -/
def launched (bank : Bank) : Bank := { bank with state := if bank.state = .pending then .ready else bank.state }

/-- A Stage Unit with one bank launched. -/
def launch (b : Fin 4) (u : StageUnit) : StageUnit := { u with banks := u.banks.set b (launched (u.banks.get b)) }

/-- A bank applied when the Stage Unit `u` has it PENDING (R138). -/
def applyIfPending (u : StageUnit) (t : State) (b : Fin 4) : State :=
  if (u.banks.get b).state = .pending then (applyBank b t).state else t

theorem applyIfPending_stage (u : StageUnit) (t : State) (b : Fin 4) : (applyIfPending u t b).stage = t.stage := by
  unfold applyIfPending
  split
  · exact (applyBank_only b t).stage
  · rfl

theorem launched_of_notPending {bank : Bank} (h : bank.state ≠ .pending) : launched bank = bank := by
  simp [launched, h]

theorem launched_of_pending {bank : Bank} (h : bank.state = .pending) : launched bank = ⟨.ready, bank.records⟩ := by
  simp [launched, h]

/-- Two fourfold collections are equal when they agree at every number. -/
theorem quad_ext {α : Type} {q q' : Quad α} (h : ∀ i, q.get i = q'.get i) : q = q' := by
  cases q
  cases q'
  have h0 := h 0
  have h1 := h 1
  have h2 := h 2
  have h3 := h 3
  simp only [Quad.get] at h0 h1 h2 h3
  rw [h0, h1, h2, h3]

theorem quad_set_get {α : Type} (q : Quad α) (i : Fin 4) : q.set i (q.get i) = q := by
  refine quad_ext fun j => ?_
  rw [Quad.get_set]
  split
  · next hj => rw [hj]
  · rfl

/-- The application of a PENDING bank and its launch, on a state whose Stage Unit was moved on to `u`. -/
theorem applyPending_stage {b : Fin 4} {u : StageUnit} {t : State} (h : u.banks.get b = t.stage.banks.get b) :
    applyPending b { t with stage := u } = { applyIfPending t.stage t b with stage := launch b u } := by
  have hbank : ({ t with stage := u } : State).stage.banks.get b = t.stage.banks.get b := h
  unfold applyPending applyIfPending
  rw [hbank]
  split
  · next hpending =>
    have happlied := applyBank_stage (s := t) (b := b) (u := u) (by rw [h])
    simp only [happlied, setBank, launch]
    rw [launched_of_pending (by rw [h]; exact hpending)]
  · next hnot =>
    have hlaunch : launch b u = u := by
      rw [launch, launched_of_notPending (by rw [h]; exact hnot), quad_set_get]
    rw [hlaunch]

/-- The PENDING banks among those of a list are applied in its order, and launched. -/
theorem foldl_applyPending : ∀ (bs : List (Fin 4)) (u : StageUnit) (t : State), bs.Nodup →
    (∀ b ∈ bs, u.banks.get b = t.stage.banks.get b) →
    bs.foldl (fun t b => applyPending b t) { t with stage := u } =
      { bs.foldl (applyIfPending t.stage) t with stage := bs.foldl (fun u b => launch b u) u }
  | [], _, _, _, _ => rfl
  | b :: bs, u, t, hnodup, h => by
    obtain ⟨hfresh, hnodup⟩ := List.nodup_cons.mp hnodup
    have hstage := applyIfPending_stage t.stage t b
    have hrest : ∀ a ∈ bs, (launch b u).banks.get a = (applyIfPending t.stage t b).stage.banks.get a := by
      intro a ha
      rw [hstage, launch, Quad.get_set_other _ _ (ne_of_mem_of_not_mem ha hfresh)]
      exact h a (List.mem_cons_of_mem b ha)
    simp only [List.foldl_cons]
    rw [applyPending_stage (h b List.mem_cons_self), foldl_applyPending bs _ _ hnodup hrest, hstage]

/-- Launching the banks one by one launches every bank. -/
theorem foldl_launch (u : StageUnit) :
    [0, 1, 2, 3].foldl (fun u b => launch b u) u = { u with banks := u.banks.map launched } := by
  obtain ⟨layout, ⟨q0, q1, q2, q3⟩, alternation⟩ := u
  simp [launch, Quad.set, Quad.map, Quad.ofFn, Quad.get]

/-- Every bank launched and the alternation moved on: what a cycle begin leaves of the Stage Unit (R138, R143). -/
def stageAfterDue (u : StageUnit) : StageUnit :=
  { u with banks := u.banks.map launched, alternation := u.alternation.bind alternationAfter }

/-- A cycle begin applies the alternation's due bank, then the PENDING banks in ascending number (R138, R143). -/
theorem applyDueBanks_eq (s : State) :
    applyDueBanks s =
      { [0, 1, 2, 3].foldl (applyIfPending s.stage) (alternated s) with stage := stageAfterDue s.stage } := by
  have hfold := foldl_applyPending [0, 1, 2, 3]
    { s.stage with alternation := s.stage.alternation.bind alternationAfter } (alternated s) (by decide)
    (fun b _ => by rw [alternated_stage])
  rw [alternated_stage, ← alternationStep_eq, foldl_launch] at hfold
  have hdue : applyDueBanks s = [0, 1, 2, 3].foldl (fun t b => applyPending b t) (alternationStep s) := by
    simp only [applyDueBanks, List.foldl_cons, List.foldl_nil]
  rw [hdue, hfold]
  rfl

/-- The banks that are PENDING, in ascending number. -/
def pendingBanks (u : StageUnit) : List (Fin 4) := [0, 1, 2, 3].filter fun b => (u.banks.get b).state = .pending

/-- The banks of a list applied in its order. -/
def applyBanks (bs : List (Fin 4)) (s : State) : State := bs.foldl (fun t b => (applyBank b t).state) s

theorem foldl_applyIfPending (u : StageUnit) (t : State) :
    [0, 1, 2, 3].foldl (applyIfPending u) t = applyBanks (pendingBanks u) t := by
  rw [applyBanks, pendingBanks, List.foldl_filter]
  simp only [decide_eq_true_eq]
  rfl

theorem pendingBanks_none {u : StageUnit} (h : ∀ b, (u.banks.get b).state ≠ .pending) : pendingBanks u = [] := by
  simp [pendingBanks, h]

theorem map_launched_none {u : StageUnit} (h : ∀ b, (u.banks.get b).state ≠ .pending) :
    u.banks.map launched = u.banks :=
  quad_ext fun b => by rw [Quad.get_map, launched_of_notPending (h b)]

/-- With no bank PENDING a cycle begin is the alternation's step alone (R143). -/
theorem applyDueBanks_noPending {s : State} (h : ∀ b, (s.stage.banks.get b).state ≠ .pending) :
    applyDueBanks s = { alternated s with stage.alternation := s.stage.alternation.bind alternationAfter } := by
  rw [applyDueBanks_eq, foldl_applyIfPending, pendingBanks_none h, stageAfterDue, map_launched_none h]
  simp only [alternated_stage, applyBanks, List.foldl_nil]

section Alternation

variable {r : Alternation} {s : State}

/-- A hold that starts at a cycle begin: the due bank is applied (R143). -/
theorem applyDueBanks_holdStarts (h : ∀ b, (s.stage.banks.get b).state ≠ .pending)
    (hr : s.stage.alternation = some r) (hstart : r.remaining = 0) :
    applyDueBanks s = { (applyBank (dueBank r) s).state with stage.alternation := alternationAfter r } := by
  rw [applyDueBanks_noPending h, alternated_some hr, if_pos hstart, hr]
  rfl

/-- A hold that goes on over a cycle begin: no bank is applied (R143). -/
theorem applyDueBanks_holdGoesOn (h : ∀ b, (s.stage.banks.get b).state ≠ .pending)
    (hr : s.stage.alternation = some r) (hbegun : r.remaining ≠ 0) :
    applyDueBanks s = { s with stage.alternation := alternationAfter r } := by
  rw [applyDueBanks_noPending h, alternated_some hr, if_neg hbegun, hr]
  rfl

theorem dueBank_a (h : r.dueB = false) : dueBank r = r.a := by simp [dueBank, h]

theorem dueBank_b (h : r.dueB = true) : dueBank r = r.b := by simp [dueBank, h]

end Alternation

/-- With one bank PENDING it is the one applied. -/
theorem pendingBanks_one {u : StageUnit} {b : Fin 4} (h : ∀ k, (u.banks.get k).state = .pending ↔ k = b) :
    pendingBanks u = [b] := by
  have only : ∀ b : Fin 4, [0, 1, 2, 3].filter (fun k : Fin 4 => k = b) = [b] := by decide
  simpa only [pendingBanks, h] using only b

/-- With two banks PENDING the lower number comes first (R138). -/
theorem pendingBanks_two {u : StageUnit} {a b : Fin 4} (hab : a < b)
    (h : ∀ k, (u.banks.get k).state = .pending ↔ k = a ∨ k = b) : pendingBanks u = [a, b] := by
  have ordered : ∀ a b : Fin 4, a < b → [0, 1, 2, 3].filter (fun k : Fin 4 => k = a ∨ k = b) = [a, b] := by decide
  simpa only [pendingBanks, h] using ordered a b hab

theorem map_launched_one {u : StageUnit} {b : Fin 4} (h : ∀ k, (u.banks.get k).state = .pending ↔ k = b) :
    u.banks.map launched = u.banks.set b ⟨.ready, (u.banks.get b).records⟩ := by
  refine quad_ext fun k => ?_
  rw [Quad.get_map, Quad.get_set]
  split
  · next hk => rw [hk, launched_of_pending ((h b).mpr rfl)]
  · next hk => rw [launched_of_notPending (mt (h k).mp hk)]

/-- One PENDING bank and no alternation: the bank is applied and READY again (R138). -/
theorem applyDueBanks_one {b : Fin 4} {s : State} (hnone : s.stage.alternation = none)
    (h : ∀ k, (s.stage.banks.get k).state = .pending ↔ k = b) :
    applyDueBanks s =
      { (applyBank b s).state with
        stage.banks := s.stage.banks.set b ⟨.ready, (s.stage.banks.get b).records⟩ } := by
  have hunit : stageAfterDue s.stage =
      { (applyBank b s).state.stage with banks := s.stage.banks.set b ⟨.ready, (s.stage.banks.get b).records⟩ } := by
    rw [(applyBank_only b s).stage, stageAfterDue, map_launched_one h]
    simp only [hnone, Option.bind_none]
  rw [applyDueBanks_eq, foldl_applyIfPending, pendingBanks_one h, alternated_none hnone, hunit]
  rfl

/-- The alternation's step, by what is left of the hold (R143). -/
theorem alternationAfter_byLeft (r : Alternation) :
    alternationAfter r =
      if 0 < holdLeft r - 1 then some { r with remaining := holdLeft r - 1 }
      else if r.dueB = false then some { r with dueB := true, remaining := 0 }
      else if r.repeats then some { r with dueB := false, remaining := 0 }
      else none := by
  by_cases hleft : 0 < holdLeft r - 1
  · rw [if_pos hleft, alternationAfter_goesOn (by omega)]
  · rw [if_neg hleft, alternationAfter_ends (by omega)]
    cases hdue : r.dueB with
    | false => rw [turnPassed_a hdue, if_pos rfl]
    | true => rw [turnPassed_b hdue, if_neg (c := true = false) (by decide)]

/-- Settles O32: the banks due in their order from every state, then the cases in which one rule acts alone. -/
theorem dueBanksAtCycleBegin : Obligations.DueBanksAtCycleBegin := by
  intro s
  refine ⟨applyDueBanks_nothing, fun b => ?_, fun r hr hidle => ⟨fun hleft => ?_, fun hstart hdue hperiod => ?_,
    fun hstart hdue hperiod => ?_, fun hstart hdue hperiod => ?_, fun hstart hdue hperiod => ?_,
    fun hlast hdue => ?_, fun hlast hdue => ?_⟩, fun b hnone hb hothers => ?_, fun a b hab hnone h => ?_, ?_⟩
  · rw [applyDueBanks_eq]
    exact Quad.get_map launched s.stage.banks b
  · rw [applyDueBanks_holdGoesOn hidle hr (by omega), alternationAfter_goesOn, holdLeft_begun (by omega)]
    rwa [holdLeft_begun (by omega)]
  · rw [applyDueBanks_holdStarts hidle hr hstart, dueBank_a hdue, alternationAfter_goesOn, holdLeft_a hstart hdue]
    rwa [holdLeft_a hstart hdue]
  · rw [applyDueBanks_holdStarts hidle hr hstart, dueBank_b hdue, alternationAfter_goesOn, holdLeft_b hstart hdue]
    rwa [holdLeft_b hstart hdue]
  · rw [applyDueBanks_holdStarts hidle hr hstart, dueBank_a hdue,
      alternationAfter_ends (by rw [holdLeft_a hstart hdue, hperiod]), turnPassed_a hdue]
  · rw [applyDueBanks_holdStarts hidle hr hstart, dueBank_b hdue,
      alternationAfter_ends (by rw [holdLeft_b hstart hdue, hperiod]), turnPassed_b hdue]
  · rw [applyDueBanks_holdGoesOn hidle hr (by omega), alternationAfter_ends (by rw [holdLeft_begun] <;> omega),
      turnPassed_a hdue]
  · rw [applyDueBanks_holdGoesOn hidle hr (by omega), alternationAfter_ends (by rw [holdLeft_begun] <;> omega),
      turnPassed_b hdue]
  · refine applyDueBanks_one hnone fun k => ⟨fun hk => ?_, fun hk => hk ▸ hb⟩
    by_contra hkb
    exact hothers k hkb hk
  · rw [applyDueBanks_eq, foldl_applyIfPending, pendingBanks_two hab h, alternated_none hnone]
    exact ⟨rfl, rfl, rfl, rfl⟩
  · rw [applyDueBanks_eq, alternated, stageAfterDue]
    cases s.stage.alternation with
    | none => rfl
    | some r =>
      rw [Option.bind_some, alternationAfter_byLeft]
      rfl

end Sys2Proof.StageProofs
end

section
/-!
PROOFS. RESULT_READ and RESULT_FLUSH (08_the_result_queue.md section 8.3): what the number of records decodes to, what
each command does when a Ready part takes it, the bytes of a record, and the settled statement about them.
-/

namespace Sys2Proof.ResultProofs

open Sys2Proof.Machine Sys2Proof.Safety Sys2Proof.ShotTableProofs Sys2Proof.RunControlProofs Sys2Proof.RegulatorProofs

/-! ### RESULT_READ (R151) -/

theorem resultRead_ready {tag : Byte} {n : Nat} {s : State} (h : Ready s) :
    exec (.resultRead tag (le1 n)) s =
      .next (replied 0xC8#8 tag (takeResultRead (le1 n) s).reply (takeResultRead (le1 n) s).state) :=
  hostCommand_unstageable h (by simp) rfl

/-- RESULT_READ asks for 1 to 12 records (R151 check 2). -/
theorem parseResultRead_le1 {n : Nat} (h : n < 256) :
    parseResultRead (le1 n) = if 1 ≤ n ∧ n ≤ 12 then .ok n else .error .badValue := by
  have hb : byteAt (le1 n) 0 = n := byteAt_le1 h []
  rw [parseResultRead, hb, sized_checked (length_le1 n)]
  simp

/-- RESULT_READ of a number in range takes k records from the oldest end, k the smaller of n and the count (R151). -/
theorem takeResultRead_inRange {n : Nat} (s : State) (h1 : 1 ≤ n) (h12 : n ≤ 12) :
    takeResultRead (le1 n) s =
      accept { s with results.records := s.results.records.drop (min n s.results.records.length) }
        (le1 (min n s.results.records.length) ++
          le2 (s.results.records.length - min n s.results.records.length) ++ le4 s.results.lost ++
          (s.results.records.take (min n s.results.records.length)).flatMap recordBytes) := by
  have htake : s.results.records.take n = s.results.records.take (min n s.results.records.length) :=
    List.take_eq_take_min
  have hdrop : s.results.records.drop n = s.results.records.drop (min n s.results.records.length) :=
    List.drop_eq_drop_iff.mpr (by simp)
  have hparse : parseResultRead (le1 n) = .ok n := by
    rw [parseResultRead_le1 (by omega), if_pos ⟨h1, h12⟩]
  simp [takeResultRead, hparse, htake, hdrop, ResultQueue.count]

/-- RESULT_READ of none, or of more than 12, is BAD_VALUE and leaves the queue as it was (R151). -/
theorem takeResultRead_outOfRange {n : Nat} (s : State) (hn : n = 0 ∨ 12 < n) (h : n < 256) :
    takeResultRead (le1 n) s = refuse .badValue s := by
  have hparse : parseResultRead (le1 n) = .error .badValue := by
    rw [parseResultRead_le1 h, if_neg (by omega)]
  simp [takeResultRead, hparse]

/-! ### RESULT_FLUSH (R153) -/

theorem resultFlush_ready {tag : Byte} {s : State} (h : Ready s) :
    exec (.resultFlush tag []) s =
      .next (replied 0xC9#8 tag (takeResultFlush [] s).reply (takeResultFlush [] s).state) :=
  hostCommand_unstageable h (by simp) rfl

/-- RESULT_FLUSH empties the queue and keeps lost (R153). -/
theorem takeResultFlush_nil (s : State) :
    takeResultFlush [] s =
      accept { s with results.records := [] } (le2 s.results.records.length ++ le4 s.results.lost) := rfl

/-! ### The bytes of a record (section 11.5.2) -/

/-- The bytes of a record, offset by offset (section 11.5.2). -/
theorem recordBytes_eq (r : ResultRecord) :
    recordBytes r =
      [BitVec.ofNat 8 r.cycle, BitVec.ofNat 8 (r.cycle / 256), BitVec.ofNat 8 (r.cycle / 65536),
       BitVec.ofNat 8 (r.cycle / 16777216), BitVec.ofNat 8 r.position, BitVec.ofNat 8 r.entry,
       BitVec.ofNat 8 r.readings.q0, BitVec.ofNat 8 (r.readings.q0 / 256),
       BitVec.ofNat 8 r.readings.q1, BitVec.ofNat 8 (r.readings.q1 / 256),
       BitVec.ofNat 8 r.readings.q2, BitVec.ofNat 8 (r.readings.q2 / 256),
       BitVec.ofNat 8 r.readings.q3, BitVec.ofNat 8 (r.readings.q3 / 256),
       r.markers.setWidth 8, r.fired, r.clipped, r.cut, recordFlagsByte r] := by
  unfold recordBytes
  rw [le4_eq]
  rfl

/-- The flags byte of a record, bit by bit (section 11.5.2). -/
theorem recordFlagsByte_bits (r : ResultRecord) :
    (recordFlagsByte r).getLsbD 0 = r.unlocked ∧ (recordFlagsByte r).getLsbD 1 = r.test ∧
    (recordFlagsByte r).getLsbD 2 = r.baseline ∧ (recordFlagsByte r).getLsbD 3 = r.fixed := by
  simp only [recordFlagsByte, flagBit, BitVec.getLsbD_or, getLsbD_weight]
  simp

theorem recordFlagsByte_lt (r : ResultRecord) : (recordFlagsByte r).toNat < 2 ^ 4 := by
  have all : ∀ a b c d : Bool,
      (flagBit a 0x01#8 ||| flagBit b 0x02#8 ||| flagBit c 0x04#8 ||| flagBit d 0x08#8).toNat < 2 ^ 4 := by decide
  exact all _ _ _ _

/-- No flag stands above bit 3 (section 11.5.2). -/
theorem recordFlagsByte_high (r : ResultRecord) {n : Nat} (h : 4 ≤ n) : (recordFlagsByte r).getLsbD n = false :=
  Nat.testBit_lt_two_pow ((recordFlagsByte_lt r).trans_le (Nat.pow_le_pow_right (by decide) h))

/-- Settles O54: RESULT_READ by the range of its number, RESULT_FLUSH, and the record by its bytes and its flags. -/
theorem resultsReadAndFlushed : Obligations.ResultsReadAndFlushed := by
  intro tag s hready
  refine ⟨fun n h1 h12 => ?_, fun n hn hbyte => ?_, ?_, fun r => ?_⟩
  · rw [resultRead_ready hready, takeResultRead_inRange s h1 h12]
    rfl
  · rw [resultRead_ready hready, takeResultRead_outOfRange s hn hbyte]
    rfl
  · rw [resultFlush_ready hready, takeResultFlush_nil]
    rfl
  · obtain ⟨hunlocked, htest, hbaseline, hfixed⟩ := recordFlagsByte_bits r
    exact ⟨recordFlagsByte r, recordBytes_eq r, hunlocked, htest, hbaseline, hfixed,
      fun _ h => recordFlagsByte_high r h⟩

end Sys2Proof.ResultProofs
end

section
/-!
PROOFS. What the blocks' own events leave alone in the executor (09_the_link_port.md section 9.3): only a taken RESET
FULL holds it, so every event of a run, a shot, the line lock, the supply or a fault leaves it as it was.
-/

namespace Sys2Proof.LinkProofs

open Sys2Proof.Machine Sys2Proof.Safety Sys2Proof.StageProofs

/-! ### The run -/

@[simp] theorem changeRun_executor (r : RunState) (c : RunCause) (s : State) :
    (changeRun r c s).link.executor = s.link.executor := by simp [changeRun]

@[simp] theorem startEvent_executor (s : State) : (startEvent s).link.executor = s.link.executor := by
  simp [startEvent]

@[simp] theorem gateCheck_executor (s : State) : (gateCheck s).link.executor = s.link.executor := by
  unfold gateCheck; split <;> simp

@[simp] theorem runEnd_executor (s : State) : (runEnd s).link.executor = s.link.executor := by
  simp only [runEnd]; split <;> simp

@[simp] theorem runEndCheck_executor (s : State) : (runEndCheck s).link.executor = s.link.executor := by
  unfold runEndCheck; split <;> simp

/-! ### Shots and cycles -/

@[simp] theorem applyBank_executor (b : Fin 4) (s : State) :
    (applyBank b s).state.link.executor = s.link.executor := by
  have hrecords : (applyRecords (s.stage.banks.get b).records s).state.link = s.link := by
    obtain ⟨_, _, _, h⟩ := applyRecords_onlyConfigured (s.stage.banks.get b).records s
    rw [h]
  simp [applyBank, hrecords]

@[simp] theorem applyDueBanks_executor (s : State) : (applyDueBanks s).link.executor = s.link.executor :=
  applyDueBanks_keep (P := fun t => t.link.executor = s.link.executor)
    (fun b t h => (applyBank_executor b t).trans h) (fun _ _ h => h) rfl

@[simp] theorem flashStart_link (s : State) : (flashStart s).link = s.link := by
  unfold flashStart
  split
  · split <;> rfl
  · rfl

@[simp] theorem startShot_link (i : Nat) (test : Bool) (s : State) : (startShot i test s).link = s.link := by
  unfold startShot
  split
  · rfl
  · simp only
    split
    · rw [flashStart_link]
      rfl
    · rfl

@[simp] theorem cycleBegin_executor (s : State) : (cycleBegin s).link.executor = s.link.executor := by
  simp [cycleBegin]

@[simp] theorem openCycle_executor (s : State) : (openCycle s).link.executor = s.link.executor := by
  simp only [openCycle]
  split
  · split <;> simp
  · simp

@[simp] theorem closeCycle_executor (s : State) : (closeCycle s).link.executor = s.link.executor := by
  simp [closeCycle]

@[simp] theorem nextShot_link (s : State) : (nextShot s).link = s.link := by simp [nextShot]

@[simp] theorem tailEnd_link (s : State) : (tailEnd s).link = s.link := by
  unfold tailEnd
  split
  · split <;> rfl
  · rfl

@[simp] theorem recordShot_executor (sh : Shot) (m : LineSet) (s : State) :
    (recordShot sh m s).link.executor = s.link.executor := by
  unfold recordShot
  split
  · rfl
  · unfold offerRecord
    split
    · simp only [addRecord]
      split <;> simp
    · rfl

/-- The readings, the baselines and the hand-off of a flash end leave the Link Port alone. -/
theorem handedOff_link (charges : Quad Nat) (sh : Shot) (s : State) :
    (handOffCycle sh (takeBaselines sh (latchReadings charges s))).link = s.link := by
  have hbaselines : (takeBaselines sh (latchReadings charges s)).link = s.link := by
    unfold takeBaselines
    split <;> rfl
  unfold handOffCycle
  split
  · exact hbaselines
  · unfold handOff
    split
    · exact hbaselines
    · simp only
      split <;> split <;> exact hbaselines

theorem noteClipped_link (sh : Shot) (s : State) : (noteClipped sh s).link = s.link := by
  unfold noteClipped
  split <;> rfl

@[simp] theorem flashEnd_executor (charges : Quad Nat) (m : LineSet) (s : State) :
    (flashEnd charges m s).link.executor = s.link.executor := by
  have hfinished (sh : Shot) : (finishFlash charges m sh s).link.executor = s.link.executor := by
    simp only [finishFlash]
    split <;> simp [enterPhase, noteClipped_link, handedOff_link]
  unfold flashEnd
  split
  · split
    · exact hfinished _
    · rfl
  · rfl

@[simp] theorem gapEnd_executor (s : State) : (gapEnd s).link.executor = s.link.executor := by
  have hfinished (sh : Shot) : (finishCycleShot sh s).link.executor = s.link.executor := by
    simp only [finishCycleShot]
    split
    · simp [suspendCycle]
    · split <;> simp
  unfold gapEnd
  split
  · split
    · split
      · rfl
      · exact hfinished _
    · rfl
  · rfl

@[simp] theorem resume_executor (s : State) : (resume s).link.executor = s.link.executor := by
  simp only [resume]
  split <;> simp

/-! ### Stops, cycle sources and triggers -/

@[simp] theorem stopEvent_executor (k : StopKind) (s : State) : (stopEvent k s).link.executor = s.link.executor := by
  unfold stopEvent
  split <;> simp

@[simp] theorem acceptCycle_executor (s : State) : (acceptCycle s).link.executor = s.link.executor := by
  simp [acceptCycle]

@[simp] theorem cycleSource_executor (s : State) : (cycleSource s).state.link.executor = s.link.executor := by
  unfold cycleSource
  split
  · rfl
  · rfl
  · simp only [countDown]
    split <;> simp
  · split
    · simp only [acceptRunning]
      split <;> simp
    · rfl
  · split
    · rfl
    · split
      · simp [acceptFinishing]
      · rfl
  · rfl

@[simp] theorem pacerExpiry_executor (s : State) : (pacerExpiry s).link.executor = s.link.executor := by
  unfold pacerExpiry
  split <;> simp

@[simp] theorem encoderEdge_executor (s : State) : (encoderEdge s).link.executor = s.link.executor := by
  unfold encoderEdge
  split
  · split <;> simp
  · rfl

@[simp] theorem encoderZero_executor (s : State) : (encoderZero s).link.executor = s.link.executor := by
  unfold encoderZero
  split <;> simp

@[simp] theorem trigCycle_executor (s : State) : (trigCycle s).link.executor = s.link.executor := by
  unfold trigCycle
  split <;> simp

@[simp] theorem trigStop_executor (s : State) : (trigStop s).link.executor = s.link.executor := by
  unfold trigStop
  split <;> simp

@[simp] theorem trigArmed_executor (s : State) : (trigArmed s).link.executor = s.link.executor := by
  unfold trigArmed
  split <;> simp

@[simp] theorem trigOperate_executor (s : State) : (trigOperate s).link.executor = s.link.executor := by
  unfold trigOperate
  split
  · rfl
  · exact trigArmed_executor s
  · simp
  · simp
  · exact trigCycle_executor s
  · split <;> simp

@[simp] theorem changeSupply_executor (m : SupplyMode) (c : SupplyCause) (s : State) :
    (changeSupply m c s).link.executor = s.link.executor := by
  simp [changeSupply]

@[simp] theorem trigActiveEdge_executor (s : State) : (trigActiveEdge s).link.executor = s.link.executor := by
  simp only [trigActiveEdge]
  split
  · split <;> simp [wakeUp]
  · rfl
  · simp

@[simp] theorem trigInactiveEdge_executor (s : State) : (trigInactiveEdge s).link.executor = s.link.executor := by
  simp only [trigInactiveEdge]
  split
  · unfold gateStop
    split <;> simp
  · rfl

/-! ### The supply, the line lock and the faults -/

@[simp] theorem settleExpiry_executor (s : State) : (settleExpiry s).link.executor = s.link.executor := by
  unfold settleExpiry
  split <;> simp

@[simp] theorem changeSync_executor (ok : Bool) (s : State) :
    (changeSync ok s).link.executor = s.link.executor := by
  simp [changeSync]

@[simp] theorem syncEdge_executor (d : Polarity) (s : State) : (syncEdge d s).link.executor = s.link.executor := by
  have hwatch : (restartWatch s).link.executor = s.link.executor := by
    simp only [restartWatch]
    split <;> simp
  unfold syncEdge
  split
  · unfold releaseByEdge
    split
    · split <;> simp [hwatch]
    · exact hwatch
    · exact hwatch
  · rfl

@[simp] theorem watchExpiry_executor (s : State) : (watchExpiry s).link.executor = s.link.executor := by
  unfold watchExpiry
  split
  · unfold releaseUnlocked
    split <;> simp
  · rfl

@[simp] theorem phaseDelayEnd_executor (s : State) : (phaseDelayEnd s).link.executor = s.link.executor := by
  unfold phaseDelayEnd
  split <;> simp

@[simp] theorem faultArrival_executor (l : Light) (s : State) :
    (faultArrival l s).link.executor = s.link.executor := by
  have hcut (t : State) : (cutIfOn l (setFaulted l t)).link = t.link := by
    unfold cutIfOn
    split <;> rfl
  simp only [faultArrival]
  split
  · rfl
  · simp only [latchFault]
    split <;> simp [hcut]

theorem dutyTimerExpiry_link (s : State) : (dutyTimerExpiry s).link = s.link := by
  unfold dutyTimerExpiry
  split <;> rfl

end Sys2Proof.LinkProofs
end

section
/-!
PROOFS. The service of the queues at the end of an event (09_the_link_port.md section 9.3, log entry 6): it stops only
when the transmitter and the executor can do no more, and what it finds done it leaves alone.
-/

namespace Sys2Proof.LinkProofs

open Sys2Proof.Machine Sys2Proof.Safety

/-- The transmitter and the executor have nothing left that they could do (R161, R164). -/
def Rested (k : LinkPort) : Prop :=
  (k.sending = none → k.replies = [] ∧ k.reports = []) ∧
  (k.commands = [] ∨ k.executor = .holding ∨ 4 ≤ k.replies.length)

/-! ### One taking -/

theorem canTake_iff (s : State) :
    canTake s = true ↔ s.link.executor = .idle ∧ s.link.commands ≠ [] ∧ s.link.replies.length < 4 := by
  simp only [canTake, Bool.and_eq_true, decide_eq_true_eq, Bool.not_eq_true', List.isEmpty_eq_false_iff, and_assoc]
  rfl

/-- The executor that cannot take a command has none, or is held, or has no room for its reply (R161). -/
theorem rested_of_not_canTake {s : State} (h : canTake s = false)
    (hsent : s.link.sending = none → s.link.replies = [] ∧ s.link.reports = []) : Rested s.link := by
  refine ⟨hsent, ?_⟩
  have hnot : ¬(s.link.executor = .idle ∧ s.link.commands ≠ [] ∧ s.link.replies.length < 4) := by
    rw [← canTake_iff, h]
    decide
  cases hexecutor : s.link.executor with
  | holding => exact .inr (.inl rfl)
  | idle =>
    by_cases hcommands : s.link.commands = []
    · exact .inl hcommands
    · exact .inr (.inr (Nat.le_of_not_lt fun hroom => hnot ⟨hexecutor, hcommands, hroom⟩))

theorem canTake_commands {s : State} (h : canTake s = true) : ∃ f rest, s.link.commands = f :: rest := by
  obtain ⟨-, hcommands, -⟩ := (canTake_iff s).mp h
  exact List.exists_cons_of_ne_nil hcommands

theorem takeOne_cons {s : State} {f : Frame} {rest : List Frame} (h : s.link.commands = f :: rest) :
    takeOne s = answer f { s with link.commands := rest } := by
  simp [takeOne, h]

/-! ### The whole service -/

/-- The service ends with the transmitter's choice, in a state reached by choices and takings alone. -/
theorem service_ends {P : State → Prop} (hsend : ∀ s, P s → P (startSend s))
    (htake : ∀ s, canTake s = true → P s → P (takeOne s)) :
    ∀ n s, P s → ∃ u, P u ∧ service n s = startSend u
  | 0, s, h => ⟨s, h, rfl⟩
  | n + 1, s, h => by
    unfold service
    split
    · next hc => exact service_ends hsend htake n _ (htake _ hc (hsend s h))
    · exact ⟨s, h, rfl⟩

/-- With a taking allowed for each waiting command the service leaves nothing undone. -/
theorem service_rested : ∀ n s, s.link.commands.length ≤ n → Rested (service n s).link
  | 0, s, h => ⟨startSend_is_settled s, .inl (by simpa [service] using h)⟩
  | n + 1, s, h => by
    unfold service
    split
    · next hc =>
      obtain ⟨f, rest, hcommands⟩ := canTake_commands hc
      refine service_rested n _ ?_
      rw [takeOne_cons hcommands, answer_commands]
      rw [startSend_commands] at hcommands
      rw [hcommands] at h
      exact Nat.le_of_succ_le_succ h
    · next hc => exact rested_of_not_canTake (Bool.eq_false_iff.mpr hc) (startSend_is_settled s)

theorem settle_rested (s : State) : Rested (settle s).link := service_rested _ s (Nat.le_refl _)

/-- With nothing left to do the service changes nothing. -/
theorem settle_of_rested {s : State} (h : Rested s.link) : settle s = s := by
  obtain ⟨hsent, htaken⟩ := h
  rw [settle_untouched (.refl s) hsent htaken, startSend_settled hsent]

theorem settle_idem (s : State) : settle (settle s) = settle s := settle_of_rested (settle_rested s)

/-- A busy transmitter and an executor that cannot take leave every queue as it is (R161, R164). -/
theorem settle_busy {s : State} (hsending : s.link.sending ≠ none)
    (hheld : s.link.executor = .holding ∨ 4 ≤ s.link.replies.length) : settle s = s :=
  settle_of_rested ⟨fun h => absurd h hsending, .inr hheld⟩

theorem event_outOfReset {s : State} (h : s.resetCause = none) (f : State → State) :
    event f s = .next (settle (f s)) := by
  simp [event, h]

theorem event_inReset {s : State} (h : s.resetCause ≠ none) (f : State → State) : event f s = .next s := by
  simp [event, Option.isSome_iff_ne_none.mpr h]

end Sys2Proof.LinkProofs
end

section
/-!
PROOFS. The Link Port stays sound (09_the_link_port.md section 9.1, R159, R161, R164, R171): what an event leaves for
the service of the queues, and that the service makes a sound Link Port of it.
-/

namespace Sys2Proof.LinkProofs

open Sys2Proof.Machine Sys2Proof.Safety

/-! ### What an event leaves for the service -/

/-- Bounded, with the gap timer in step with the receiver, and an executor that is held has its reply queued or in
transmission (R171). -/
structure Serviceable (k : LinkPort) : Prop where
  bounds : LinkBounds k
  receiver : ReceiverSound k
  held : k.executor = .holding → k.sending ≠ none ∨ k.replies ≠ []

theorem serviceable_of_linkSound {s : State} (h : LinkSound s) : Serviceable s.link := by
  obtain ⟨hbounds, hreceiver, ⟨-, -, hheld⟩, -⟩ := h
  exact ⟨hbounds, hreceiver, fun hx => .inl (hheld hx)⟩

/-- An effect that touches neither the queues nor the executor leaves the service what it had. -/
theorem serviceable_of_untouched {s t : State} (h : Untouched s t) (hx : t.link.executor = s.link.executor)
    (hs : Serviceable s.link) : Serviceable t.link := by
  obtain ⟨⟨hcommands, hreplies, hreports, herrors, hdropped, hlost⟩, hreceiver, hheld⟩ := hs
  refine ⟨⟨?_, ?_, h.reports hreports, ?_, ?_, h.reportsLost hlost⟩, ?_, ?_⟩
  · rwa [h.commands]
  · rwa [h.replies]
  · rwa [h.linkErrors]
  · rwa [h.framesDropped]
  · rwa [ReceiverSound, h.gapTimer, h.receiver]
  · rwa [hx, h.sending, h.replies]

/-! ### The transmitter's choice and a taking -/

/-- The transmitter's choice, case by case: nothing, or the oldest reply, or with no reply the oldest report (R164). -/
theorem startSend_cases (s : State) :
    startSend s = s ∨
    (∃ f rest, s.link.replies = f :: rest ∧
      startSend s = { s with link.replies := rest, link.sending := some (frameBytes f) }) ∨
    (∃ f rest, s.link.replies = [] ∧ s.link.reports = f :: rest ∧
      startSend s = { s with link.reports := rest, link.sending := some (frameBytes f) }) := by
  cases hsending : s.link.sending with
  | some f => exact .inl (startSend_busy hsending)
  | none =>
    cases hreplies : s.link.replies with
    | cons f rest => exact .inr (.inl ⟨f, rest, rfl, startSend_reply hsending hreplies⟩)
    | nil =>
      cases hreports : s.link.reports with
      | cons f rest => exact .inr (.inr ⟨f, rest, rfl, rfl, startSend_report hsending hreplies hreports⟩)
      | nil => exact .inl (startSend_nothing hreplies hreports)

theorem startSend_serviceable {s : State} (h : Serviceable s.link) : Serviceable (startSend s).link := by
  have ⟨⟨hcommands, hreplies, hreports, hcounters⟩, hreceiver, _⟩ := h
  have hsends (f : Frame) : some (frameBytes f) ≠ none := Option.some_ne_none _
  rcases startSend_cases s with heq | ⟨f, rest, hqueue, heq⟩ | ⟨f, rest, -, hqueue, heq⟩
  · rwa [heq]
  · rw [hqueue] at hreplies
    rw [heq]
    exact ⟨⟨hcommands, Nat.le_of_succ_le hreplies, hreports, hcounters⟩, hreceiver, fun _ => .inl (hsends f)⟩
  · rw [hqueue] at hreports
    rw [heq]
    exact ⟨⟨hcommands, hreplies, Nat.le_of_succ_le hreports, hcounters⟩, hreceiver, fun _ => .inl (hsends f)⟩

/-- After the transmitter's choice a held executor's reply, if it was queued, is in transmission or behind a frame that
is (R171). -/
theorem startSend_held {s : State} (h : Serviceable s.link) (hx : (startSend s).link.executor = .holding) :
    (startSend s).link.sending ≠ none := by
  intro hnone
  obtain ⟨hreplies, -⟩ := startSend_is_settled s hnone
  rcases (startSend_serviceable h).held hx with hsending | hqueued
  · exact hsending hnone
  · exact hqueued hreplies

/-- An answer takes up the room that its reply had; it is there when RESET FULL holds the executor (R161, R171). -/
theorem answer_serviceable {f : Frame} {s : State} (hroom : s.link.replies.length < 4) (h : Serviceable s.link) :
    Serviceable (answer f s).link := by
  have hu := execute_untouched f s
  obtain ⟨⟨hcommands, -, hreports, herrors, hdropped, hlost⟩, hreceiver, -⟩ := h
  refine ⟨⟨?_, ?_, hu.reports hreports, ?_, ?_, hu.reportsLost hlost⟩, ?_, fun _ => .inr ?_⟩
  · rwa [answer_commands]
  · rw [answer_replies, List.length_append]
    exact hroom
  · exact hu.linkErrors ▸ herrors
  · exact hu.framesDropped ▸ hdropped
  · show ReceiverSound (execute f s).state.link
    rwa [ReceiverSound, hu.gapTimer, hu.receiver]
  · simp [answer_replies]

theorem takeOne_serviceable {s : State} (hc : canTake s = true) (h : Serviceable s.link) :
    Serviceable (takeOne s).link := by
  obtain ⟨f, rest, hcommands⟩ := canTake_commands hc
  obtain ⟨-, -, hroom⟩ := (canTake_iff s).mp hc
  obtain ⟨⟨hlength, hbounds⟩, hreceiver, hheld⟩ := h
  rw [hcommands] at hlength
  rw [takeOne_cons hcommands]
  exact answer_serviceable hroom ⟨⟨Nat.le_of_succ_le hlength, hbounds⟩, hreceiver, hheld⟩

/-! ### The service -/

/-- The service makes a sound Link Port of what an event leaves, out of reset. -/
theorem settle_linkSound {s : State} (hreset : s.resetCause = none) (h : Serviceable s.link) :
    LinkSound (settle s) := by
  obtain ⟨hsent, htaken⟩ := settle_rested s
  obtain ⟨u, hu, hends⟩ : ∃ u, Serviceable u.link ∧ settle s = startSend u :=
    service_ends (P := fun t => Serviceable t.link) (fun _ => startSend_serviceable) (fun _ => takeOne_serviceable)
      _ s h
  obtain ⟨hbounds, hreceiver, -⟩ := hends ▸ startSend_serviceable hu
  refine ⟨hbounds, hreceiver, ⟨hsent, htaken, ?_⟩, fun hin => ?_⟩
  · rw [hends]
    exact startSend_held hu
  · simp [hreset] at hin

/-- An event keeps the Link Port sound when its effect, out of reset, leaves it serviceable. -/
theorem event_linkSound {f : State → State} {s t : State} (hs : LinkSound s)
    (hf : s.resetCause = none → (f s).resetCause = none ∧ Serviceable (f s).link) (h : event f s = .next t) :
    LinkSound t := by
  by_cases hreset : s.resetCause = none
  · rw [event_outOfReset hreset] at h
    cases h
    obtain ⟨hout, hlink⟩ := hf hreset
    exact settle_linkSound hout hlink
  · rw [event_inReset hreset] at h
    cases h
    exact hs

/-- The same for an event of an input pin, whose level touches no part of the Link Port. -/
theorem pinEvent_linkSound {level f : State → State} {s t : State} (hs : LinkSound s)
    (hlevel : (level s).link = s.link) (hcause : (level s).resetCause = s.resetCause)
    (hf : s.resetCause = none → (f s).resetCause = none ∧ Serviceable (f s).link)
    (h : pinEvent level f s = .next t) : LinkSound t := by
  by_cases hreset : s.resetCause = none
  · refine event_linkSound hs hf ?_
    simpa [pinEvent, event, hreset] using h
  · cases h
    rw [if_pos (Option.isSome_iff_ne_none.mpr hreset), LinkSound, hlevel, hcause]
    exact hs

/-! ### The receiver (R158, R159, R160) -/

/-- The sixteen-bit counters stop at their top (section 9.1). -/
theorem saturate_top16_le (n : Nat) : saturate top16 n ≤ 65535 := Nat.min_le_right _ _

theorem arrive_serviceable (f : Frame) {s : State} (h : Serviceable s.link) : Serviceable (arrive f s).link := by
  have ⟨⟨_, hreplies, hreports, herrors, _, hlost⟩, hreceiver, hheld⟩ := h
  unfold arrive
  split
  · exact h
  · split
    · next hroom =>
      have hjoined : (s.link.commands ++ [f]).length ≤ 4 := by
        rw [List.length_append]
        exact hroom
      exact ⟨⟨hjoined, hreplies, hreports, herrors, by assumption, hlost⟩, hreceiver, hheld⟩
    · exact ⟨⟨by assumption, hreplies, hreports, herrors, saturate_top16_le _, hlost⟩, hreceiver, hheld⟩

theorem countLinkError_serviceable {s : State} (h : Serviceable s.link) : Serviceable (countLinkError s).link := by
  obtain ⟨⟨hcommands, hreplies, hreports, -, hdropped, hlost⟩, hreceiver, hheld⟩ := h
  exact ⟨⟨hcommands, hreplies, hreports, saturate_top16_le _, hdropped, hlost⟩, hreceiver, hheld⟩

theorem hunt_serviceable {s : State} (h : Serviceable s.link) : Serviceable (hunt s).link :=
  ⟨h.bounds, by simp [ReceiverSound, hunt], h.held⟩

theorem assemble_serviceable (got : List Byte) {s : State} (h : Serviceable s.link) :
    Serviceable (assemble got s).link :=
  ⟨h.bounds, by simp [ReceiverSound, assemble], h.held⟩

theorem collect_serviceable (got : List Byte) {s : State} (h : Serviceable s.link) :
    Serviceable (collect got s).link := by
  unfold collect
  split
  · exact hunt_serviceable h
  · split
    · split
      · exact assemble_serviceable _ h
      · unfold judge
        split
        · exact arrive_serviceable _ (hunt_serviceable h)
        · exact countLinkError_serviceable (hunt_serviceable h)
    · exact hunt_serviceable h

theorem receiveByte_serviceable (b : Byte) {s : State} (h : Serviceable s.link) :
    Serviceable (receiveByte b s).link := by
  unfold receiveByte
  split
  · exact h
  · split
    · split
      · exact assemble_serviceable [] h
      · exact h
    · exact collect_serviceable _ h

/-- The receiver never leaves or enters reset. -/
theorem resetCause_of_onlyLink {s t : State} (h : BlocksProofs.OnlyLink s t) : t.resetCause = s.resetCause := by
  obtain ⟨_, rfl⟩ := h
  rfl

/-- A whole frame's bytes, each served before the next (log entry 31). -/
theorem receiveFrame_serviceable (bytes : List Byte) {s : State} (hreset : s.resetCause = none)
    (h : Serviceable s.link) :
    (receiveFrame bytes s).resetCause = none ∧ Serviceable (receiveFrame bytes s).link := by
  induction bytes generalizing s with
  | nil => exact ⟨hreset, h⟩
  | cons b bs ih =>
    have hout : (receiveByte b s).resetCause = none := (resetCause_of_onlyLink (.receiveByte b s)).trans hreset
    exact ih ((settle_resetCause _).trans hout)
      (serviceable_of_linkSound (settle_linkSound hout (receiveByte_serviceable b h)))

theorem framingErrorSeen_serviceable (held : Bool) {s : State} (h : Serviceable s.link) :
    Serviceable (framingErrorSeen held s).link := by
  unfold framingErrorSeen
  split
  · exact h
  · obtain ⟨hbounds, hreceiver, hheld⟩ := countLinkError_serviceable (hunt_serviceable h)
    exact ⟨hbounds, hreceiver, hheld⟩

theorem gapTimerExpires_serviceable {s : State} (h : Serviceable s.link) : Serviceable (gapTimerExpires s).link := by
  unfold gapTimerExpires
  split
  · exact hunt_serviceable h
  · exact h

/-! ### The resets (R171, R172) -/

theorem reset_linkBounds : LinkBounds LinkPort.reset := by
  unfold LinkBounds
  decide

theorem reset_receiverSound : ReceiverSound LinkPort.reset := by simp [ReceiverSound, LinkPort.reset]

/-- A full reset leaves the Link Port with nothing to do. -/
theorem fullReset_linkSound (c : ResetCause) (s : State) : LinkSound (fullReset c s) :=
  ⟨reset_linkBounds, reset_receiverSound, ⟨fun _ => ⟨rfl, rfl⟩, .inl rfl, nofun⟩, fun _ => rfl⟩

/-- At reset completion READY goes out over an idle transmitter whose queues are empty (R167). -/
theorem completeReset_link {s : State} {c : ResetCause} (hc : s.resetCause = some c) (hl : s.link = LinkPort.reset) :
    completeReset s = { startLights s with
      link := { LinkPort.reset with sending := some (frameBytes (readyFrame c)) }, resetCause := none } := by
  cases s
  cases hc
  cases hl
  rfl

theorem completeReset_linkSound {s : State} (h : LinkSound s) : LinkSound (completeReset s) := by
  obtain ⟨-, -, -, hreset⟩ := id h
  cases hc : s.resetCause with
  | none =>
    have hsame : completeReset s = s := by simp [completeReset, hc]
    rwa [hsame]
  | some c =>
    rw [completeReset_link hc (hreset (by simp [hc]))]
    exact ⟨reset_linkBounds, reset_receiverSound, ⟨nofun, .inl rfl, nofun⟩, nofun⟩

theorem commandReset_serviceable (s : State) :
    (commandReset s).resetCause = none ∧ Serviceable (commandReset s).link := by
  have hdone : commandReset s = _ := completeReset_link (s := fullReset .command s) rfl rfl
  refine ⟨by rw [hdone], serviceable_of_linkSound (completeReset_linkSound (fullReset_linkSound _ s))⟩

/-- The frame in transmission leaves; the executor that is still held has its reply in the queue (R171). -/
theorem frameSentEvent_serviceable {s : State} (hreset : s.resetCause = none) (h : Serviceable s.link) :
    (frameSentEvent s).resetCause = none ∧ Serviceable (frameSentEvent s).link := by
  unfold frameSentEvent
  split
  · split
    · exact commandReset_serviceable s
    · next hdue =>
      refine ⟨hreset, h.bounds, h.receiver, fun hx => .inr fun hreplies => hdue ?_⟩
      simp only at hx hreplies
      simp [resetDue, hx, hreplies]
  · exact ⟨hreset, h⟩

theorem fullResetEvent_serviceable {s : State} (hreset : s.resetCause = none) (h : Serviceable s.link) :
    (fullResetEvent s).resetCause = none ∧ Serviceable (fullResetEvent s).link := by
  unfold fullResetEvent
  split
  · exact commandReset_serviceable s
  · exact ⟨hreset, h⟩

/-! ### Every step -/

/-- Every command and event keeps the Link Port sound. -/
theorem exec_linkSound {i : Instr} {s t : State} (hs : LinkSound s) (h : exec i s = .next t) : LinkSound t := by
  have hlink := serviceable_of_linkSound hs
  have block {f : State → State} (hu : Untouched s (f s)) (hx : (f s).link.executor = s.link.executor)
      (he : event f s = .next t) : LinkSound t :=
    event_linkSound hs (fun hreset => ⟨hu.resetCause.trans hreset, serviceable_of_untouched hu hx hlink⟩) he
  have pin {level f : State → State} (hlevel : (level s).link = s.link) (hc : (level s).resetCause = s.resetCause)
      (hu : Untouched s (f s)) (hx : (f s).link.executor = s.link.executor) (he : pinEvent level f s = .next t) :
      LinkSound t :=
    pinEvent_linkSound hs hlevel hc
      (fun hreset => ⟨hu.resetCause.trans hreset, serviceable_of_untouched hu hx hlink⟩) he
  have line {f : State → State} (hl : BlocksProofs.OnlyLink s (f s)) (hf : Serviceable (f s).link)
      (he : event f s = .next t) : LinkSound t :=
    event_linkSound hs (fun hreset => ⟨(resetCause_of_onlyLink hl).trans hreset, hf⟩) he
  cases i
  case frameReceived bytes => exact event_linkSound hs (fun hr => receiveFrame_serviceable bytes hr hlink) h
  case byteReceived b => exact line (.receiveByte b s) (receiveByte_serviceable b hlink) h
  case framingError held => exact line (.framingErrorSeen held s) (framingErrorSeen_serviceable held hlink) h
  case gapTimerExpiry => exact line (.gapTimerExpires s) (gapTimerExpires_serviceable hlink) h
  case lineReturnToIdle => exact line (f := lineIdle) ⟨_, rfl⟩ ⟨hlink.bounds, hlink.receiver, hlink.held⟩ h
  case frameSent => exact event_linkSound hs (fun hr => frameSentEvent_serviceable hr hlink) h
  case fullReset => exact event_linkSound hs (fun hr => fullResetEvent_serviceable hr hlink) h
  case powerOn => cases h; exact fullReset_linkSound .power s
  case rstnLow => cases h; exact fullReset_linkSound .pin s
  case resetCompletion => cases h; exact completeReset_linkSound hs
  case pacerExpiry => exact block (pacerExpiry_untouched s) (pacerExpiry_executor s) h
  case encEdge => exact block (encoderEdge_untouched s) (encoderEdge_executor s) h
  case encoderCounterZero => exact block (encoderZero_untouched s) (encoderZero_executor s) h
  case trigActiveEdge => exact pin rfl rfl (trigActiveEdge_untouched s) (trigActiveEdge_executor s) h
  case trigInactiveEdge => exact pin rfl rfl (trigInactiveEdge_untouched s) (trigInactiveEdge_executor s) h
  case syncEdge d => exact block (syncEdge_untouched d s) (syncEdge_executor d s) h
  case watchExpiry => exact block (watchExpiry_untouched s) (watchExpiry_executor s) h
  case phaseDelayEnd => exact block (phaseDelayEnd_untouched s) (phaseDelayEnd_executor s) h
  case flashStart => exact block (flashStart_untouched s) (by rw [flashStart_link]) h
  case firingEnd l => exact block (f := firingEnd l) (.of_link rfl rfl rfl) rfl h
  case flashEnd c m => exact block (flashEnd_untouched c m s) (flashEnd_executor c m s) h
  case tailEnd => exact block (tailEnd_untouched s) (by rw [tailEnd_link]) h
  case gapEnd => exact block (gapEnd_untouched s) (gapEnd_executor s) h
  case dutyTimerExpiry => exact block (dutyTimerExpiry_untouched s) (by rw [dutyTimerExpiry_link]) h
  case faultArrival l => exact pin rfl rfl (faultArrival_untouched l s) (faultArrival_executor l s) h
  case settleExpiry => exact block (settleExpiry_untouched s) (settleExpiry_executor s) h
  case faultLineReturnToInactive l => exact pin (f := faultLineReturn l) rfl rfl (.of_link rfl rfl rfl) rfl h
  all_goals exact line (.arrive _ s) (arrive_serviceable _ hlink) h

/-- A passing microsecond moves nothing of the Link Port but the gap timer's time. -/
theorem passTime_linkSound {s : State} (h : LinkSound s) : LinkSound (passTime s) := by
  obtain ⟨hbounds, hreceiver, hsettled, hreset⟩ := h
  refine ⟨hbounds, ?_, hsettled, fun hin => ?_⟩
  · simpa [ReceiverSound, passTime, timerTick] using hreceiver
  · have hlink := hreset hin
    simp only [passTime, hlink]
    rfl

/-- Settles O58: every event leaves the Link Port serviceable, and the service of the queues makes it sound. -/
theorem stepKeepsLinkSound : Obligations.StepKeepsLinkSound := by
  intro s t hs h
  unfold step at h
  split at h
  · cases h
    exact passTime_linkSound hs
  · next c rest _ => exact exec_linkSound (s := { s with pending := rest }) hs h

end Sys2Proof.LinkProofs
end

section
/-!
PROOFS. Reports, replies and the transmit line (09_the_link_port.md sections 9.3 and 9.4): raised reports, the arrival
of a command frame at every kind of part, the one reply of a taking, the first checks of R162, and the end of a
transmission.
-/

namespace Sys2Proof.LinkProofs

open Sys2Proof.Machine Sys2Proof.Safety Sys2Proof.StageProofs

/-! ### Reports (R69, R74, R165, R180) -/

/-- The settle field of SUPPLY is the settle time of a change into WAKING, and 0 otherwise (R180). -/
theorem settleField_eq (mode : SupplyMode) (settle : Nat) :
    settleField mode settle = if mode = .waking then settle else 0 := by
  cases mode <;> rfl

/-- Settles O4: a report masked, queued or lost, and the fields of the three reports of a change. -/
theorem reportsRaised : Obligations.ReportsRaised := by
  refine ⟨fun k p s => ⟨raise_masked, raise_queued, raise_lost⟩, fun _ _ _ => rfl, fun mode cause s => ?_,
    fun _ _ => rfl⟩
  rw [changeSupply, supplyPayload, settleField_eq]

/-! ### The arrival of a command frame (R160, R161) -/

/-- A frame that arrives at a full Command Queue is dropped and counted (R160). -/
theorem arrive_full {f : Frame} {s : State} (hp : f.payload.length ≤ 250) (hc : 4 ≤ s.link.commands.length) :
    arrive f s = { s with link.framesDropped := min (s.link.framesDropped + 1) 65535 } := by
  simp only [arrive, Config.payloadCapacity, Config.commandCapacity, Nat.not_lt.mpr hp, Nat.not_lt.mpr hc, if_false]
  rfl

/-- A frame that arrives at a Ready part is answered in the same event (R161). -/
theorem event_arrive_of_ready {f : Frame} {s : State} (hp : f.payload.length ≤ 250) (h : Ready s) :
    event (arrive f) s = .next (startSend (answer f s)) := by
  obtain ⟨hreset, hexecutor, hcommands, hreplies, hsent⟩ := h
  exact event_arrive_ready hp hreset hexecutor hcommands hreplies hsent

/-- Settles O5: answered by a Ready part, queued or dropped while the executor cannot take, not received in reset. -/
theorem commandFrameArrives : Obligations.CommandFrameArrives := by
  intro i f s hi hp
  rw [exec_hostFrame hi]
  refine ⟨event_arrive_of_ready hp, fun hreset hsending hheld => ⟨fun hroom => ?_, fun hfull => ?_⟩,
    fun hin => event_inReset hin _⟩
  · rw [event_outOfReset hreset, arrive_room hp hroom]
    exact congrArg _ (settle_busy hsending hheld)
  · rw [event_outOfReset hreset, arrive_full hp hfull]
    exact congrArg _ (settle_busy hsending hheld)

/-! ### What a taking answers (R162, R163) -/

/-- A taking is refused and changes nothing, or its reply begins with status 0 or 1 (R162). -/
def Answered (s : State) (r : Taken) : Prop :=
  (∃ st, r = refuse st s) ∨ ∃ status fields, r.reply = status :: fields ∧ (status = 0#8 ∨ status = 1#8)

theorem answered_refuse (st : Status) (s : State) : Answered s (refuse st s) := .inl ⟨st, rfl⟩

theorem answered_accept (s t : State) (fields : List Byte) : Answered s (accept t fields) :=
  .inr ⟨_, _, rfl, .inl rfl⟩

/-- A refused taking left the state and its reply is the status alone. -/
theorem refused_of_answered {s : State} {r : Taken} {status : Byte} {fields : List Byte} (h : Answered s r)
    (hreply : r.reply = status :: fields) (hok : status ≠ 0#8) (hstaged : status ≠ 1#8) :
    r.state = s ∧ fields = [] := by
  rcases h with ⟨st, rfl⟩ | ⟨status', fields', hr, hstatus⟩
  · cases hreply
    exact ⟨rfl, rfl⟩
  · rw [hr] at hreply
    cases hreply
    rcases hstatus with rfl | rfl
    · exact absurd rfl hok
    · exact absurd rfl hstaged

theorem reply_ne_nil_of_answered {s : State} {r : Taken} (h : Answered s r) : r.reply ≠ [] := by
  rcases h with ⟨st, rfl⟩ | ⟨status, fields, hr, -⟩
  · exact List.cons_ne_nil _ _
  · rw [hr]
    exact List.cons_ne_nil _ _

/-- Every way through a command's checks ends in a refusal of the state found or in an acceptance. -/
theorem executeDirect_answered (c : Command) (p : List Byte) (s : State) : Answered s (executeDirect c p s) := by
  cases c
  case identify | status | reportMask | senseSet | senseGet | halt | regMode | regBands | regLimits | regGet |
      lightDuty | lightGet | stageGet | resultRead | resultFlush | resultThreshold | supplySetup =>
    simp only [executeDirect, takeIdentify, takeStatus, takeReportMask, takeSenseSet, takeSenseGet, takeHalt,
      takeRegMode, takeRegBands, takeRegLimits, takeRegGet, takeLightDuty, takeLightGet, takeStageGet, takeResultRead,
      takeResultFlush, takeResultThreshold, takeSupplySetup]
    split
    · exact answered_refuse _ s
    · exact answered_accept s _ _
  all_goals
    simp only [executeDirect, takeReset, takeShotPut, takeShotGet, takeSeqSelect, takeTableClear, takeFire,
      takeRunSetup, takeStart, takeCycle, takeAbort, takeLockSetup, takeRegForce, takeFaultClear, takeStageOpen,
      takeStageClose, takeStageLaunch, takeStageDrop, takeStageLayout, takeStageAlternate, takeStandby, takeWake]
    repeat' split
  all_goals first
    | exact answered_refuse _ s
    | exact answered_accept s _ _

theorem capture_answered (b : Fin 4) (c : Command) (p : List Byte) (s : State) : Answered s (capture b c p s) := by
  unfold capture
  split
  · exact answered_refuse _ s
  · simp only
    split
    · exact .inr ⟨_, _, rfl, .inr rfl⟩
    · exact answered_refuse _ s

theorem execute_answered (f : Frame) (s : State) : Answered s (execute f s) := by
  unfold execute
  split
  · unfold executeCommand
    split
    · split
      · exact capture_answered _ _ _ s
      · exact executeDirect_answered _ _ s
    · exact executeDirect_answered _ _ s
  · exact answered_refuse _ s

/-- Settles O6: the one reply of an answer joins the Reply Queue, and a refusal is the state found with its status. -/
theorem oneReplyPerTaking : Obligations.OneReplyPerTaking := by
  refine ⟨fun i f s hi hp hready hsending => ?_,
    fun f s status fields => refused_of_answered (execute_answered f s)⟩
  have ⟨_, _, hcommands, _, _⟩ := hready
  obtain ⟨bytes, hbytes⟩ := Option.ne_none_iff_exists'.mp hsending
  have hsent : (answer f s).link.sending = s.link.sending := (execute_untouched f s).sending
  have hbusy : startSend (answer f s) = answer f s := startSend_busy (hsent.trans hbytes)
  refine ⟨answer f s, replyFrame f (execute f s).reply, ?_, answer_replies f s, rfl, rfl,
    reply_ne_nil_of_answered (execute_answered f s), (answer_commands f s).trans hcommands, hsent⟩
  rw [exec_hostFrame hi, event_arrive_of_ready hp hready, hbusy]

/-! ### Codes and lengths (R162) -/

theorem sized_badLength {α : Type} {n : Nat} {p : List Byte} {v : Option α} (h : p.length ≠ n) :
    sized n p v = .error .badLength := if_neg h

/-- A payload of the wrong length is refused by every command, before any other check (R162). -/
theorem executeDirect_badLength {c : Command} {p : List Byte} (s : State) (h : p.length ≠ payloadLength c) :
    executeDirect c p s = refuse .badLength s := by
  cases c <;> simp only [payloadLength] at h
  case identify | status | tableClear | senseGet | start | cycle | halt | abort | stageClose | stageGet | resultFlush |
      standby | wake =>
    simp only [executeDirect, takeIdentify, takeStatus, takeTableClear, takeSenseGet, takeStart, takeCycle, takeHalt,
      takeAbort, takeStageClose, takeStageGet, takeResultFlush, takeStandby, takeWake, parseNothing, sized_badLength h]
  case shotGet | fire => simp only [executeDirect, takeShotGet, takeFire, parseIndex, sized_badLength h]
  case regGet | lightGet | faultClear =>
    simp only [executeDirect, takeRegGet, takeLightGet, takeFaultClear, parseLight, sized_badLength h]
  case stageOpen | stageLaunch | stageDrop =>
    simp only [executeDirect, takeStageOpen, takeStageLaunch, takeStageDrop, parseBank, sized_badLength h]
  case reportMask => simp only [executeDirect, takeReportMask, parseMask, sized_badLength h]
  case reset => simp only [executeDirect, takeReset, parseReset, sized_badLength h]
  case shotPut => simp only [executeDirect, takeShotPut, parseShotPut, sized_badLength h]
  case seqSelect => simp only [executeDirect, takeSeqSelect, parseSeqSelect, sized_badLength h]
  case senseSet => simp only [executeDirect, takeSenseSet, parseSenseSet, sized_badLength h]
  case runSetup => simp only [executeDirect, takeRunSetup, parseRunSetup, sized_badLength h]
  case lockSetup => simp only [executeDirect, takeLockSetup, parseLockSetup, sized_badLength h]
  case regMode => simp only [executeDirect, takeRegMode, parseRegMode, sized_badLength h]
  case regForce => simp only [executeDirect, takeRegForce, parseRegForce, sized_badLength h]
  case regBands => simp only [executeDirect, takeRegBands, parseRegBands, sized_badLength h]
  case regLimits => simp only [executeDirect, takeRegLimits, parseRegLimits, sized_badLength h]
  case lightDuty => simp only [executeDirect, takeLightDuty, parseLightDuty, sized_badLength h]
  case stageLayout => simp only [executeDirect, takeStageLayout, parseStageLayout, sized_badLength h]
  case stageAlternate => simp only [executeDirect, takeStageAlternate, parseStageAlternate, sized_badLength h]
  case resultRead => simp only [executeDirect, takeResultRead, parseResultRead, sized_badLength h]
  case resultThreshold => simp only [executeDirect, takeResultThreshold, parseThreshold, sized_badLength h]
  case supplySetup => simp only [executeDirect, takeSupplySetup, parseSupplySetup, sized_badLength h]

/-- The OPEN bank refuses it as the command does (R130). -/
theorem executeCommand_badLength {c : Command} {p : List Byte} (s : State) (h : p.length ≠ payloadLength c) :
    executeCommand c p s = refuse .badLength s := by
  unfold executeCommand
  split
  · split
    · next hstageable =>
      obtain ⟨_, _, hcheck⟩ := captureCheck_sized hstageable p
      exact capture_refused (hcheck.trans (failureOf_sized_length h))
    · exact executeDirect_badLength s h
  · exact executeDirect_badLength s h

/-- Settles O7: UNKNOWN whatever the payload, and BAD_LENGTH before any other check. -/
theorem codeAndLengthChecked : Obligations.CodeAndLengthChecked := by
  intro i f s hi hp hready
  refine ⟨fun hunknown => ?_, fun c hc hlen => ?_⟩
  · rw [exec_hostFrame hi, event_arrive_of_ready hp hready, answer, execute, hunknown]
    rfl
  · rw [exec_frame_ready hi hc hp hready, executeCommand_badLength s hlen]
    rfl

/-! ### The end of a transmission (R164) -/

/-- The transmitter at the end of its frame: idle (R164). -/
def transmitted (s : State) : State := { s with link.sending := none }

/-- The transmitter goes idle when its frame was not the reply of a RESET FULL (R164, R171). -/
theorem frameSentEvent_idle {s : State} (hsending : s.link.sending ≠ none) (h : resetDue s = false) :
    frameSentEvent s = transmitted s := by
  obtain ⟨bytes, hbytes⟩ := Option.ne_none_iff_exists'.mp hsending
  simp [frameSentEvent, transmitted, hbytes, h]

theorem resetDue_idle {s : State} (h : s.link.executor = .idle) : resetDue s = false := by simp [resetDue, h]

theorem resetDue_queued {s : State} {r : Frame} {rs : List Frame} (h : s.link.replies = r :: rs) :
    resetDue s = false := by
  simp [resetDue, h]

/-- The end of a transmission of another frame: the service finds the transmitter idle (R164). -/
theorem exec_frameSent {s : State} (hreset : s.resetCause = none) (hsending : s.link.sending ≠ none)
    (h : resetDue s = false) : exec .frameSent s = .next (settle (transmitted s)) := by
  show event frameSentEvent s = _
  rw [event_outOfReset hreset, frameSentEvent_idle hsending h]

/-- An executor with a command that it can take, and no room left by its reply: one taking (R161). -/
theorem settle_lastRoom {s : State} {c : Frame} {cs : List Frame} (hexecutor : (startSend s).link.executor = .idle)
    (hcommands : s.link.commands = c :: cs) (hroom : (startSend s).link.replies.length = 3)
    (hsending : (startSend s).link.sending ≠ none) :
    settle s = answer c { startSend s with link.commands := cs } := by
  have hsent : (startSend s).link.commands = c :: cs := (startSend_commands s).trans hcommands
  have htake : canTake (startSend s) = true :=
    (canTake_iff _).mpr ⟨hexecutor, hsent ▸ List.cons_ne_nil c cs, by omega⟩
  have hfull : Rested (answer c { startSend s with link.commands := cs }).link := by
    refine ⟨fun h => absurd ((execute_untouched c _).sending.symm.trans h) hsending, .inr (.inr ?_)⟩
    rw [answer_replies, List.length_append]
    exact (congrArg (· + 1) hroom).ge
  rw [settle, hcommands]
  show service (cs.length + 1) s = _
  rw [service, if_pos htake, takeOne_cons hsent]
  have hwaiting : (answer c { startSend s with link.commands := cs }).link.commands.length = cs.length := by simp
  rw [← hwaiting]
  exact settle_of_rested hfull

/-- A held executor takes nothing: the service is the transmitter's choice alone (R171). -/
theorem settle_held {s : State} (h : s.link.executor = .holding) : settle s = startSend s := by
  have hnot : canTake (startSend s) = false := by simp [canTake, h]
  unfold settle
  cases s.link.commands.length with
  | zero => rfl
  | succ n => simp [service, hnot]

/-- Settles O8: nothing to send off, the three choices of the transmitter, the room of a reply that leaves, and the
replies before a RESET FULL's own. -/
theorem frameSentGoesOn : Obligations.FrameSentGoesOn := by
  intro s hreset
  refine ⟨fun hnone hrest => ?_, fun hsending hidle hcommands => ?_, fun hsending hidle r rs c cs hr hrs hc => ?_,
    fun hsending hheld r rs hr => ?_⟩
  · have ⟨_, hqueues⟩ := hrest
    have hevent : frameSentEvent s = s := by simp [frameSentEvent, hnone]
    show event frameSentEvent s = _
    rw [event_outOfReset hreset, hevent, settle_of_rested hqueues]
  · rw [exec_frameSent hreset hsending (resetDue_idle hidle), settle_calm (s := transmitted s) hcommands]
    exact ⟨fun r rs hr => congrArg _ (startSend_reply (s := transmitted s) rfl hr),
      fun hr r rs hp => congrArg _ (startSend_report (s := transmitted s) rfl hr hp),
      fun hr hp => congrArg _ (startSend_nothing (s := transmitted s) hr hp)⟩
  · have hchoice : startSend (transmitted s) = { s with link.replies := rs, link.sending := some (frameBytes r) } :=
      startSend_reply rfl hr
    have htaken : settle (transmitted s) = answer c { startSend (transmitted s) with link.commands := cs } :=
      settle_lastRoom (by rw [hchoice]; exact hidle) hc (by rw [hchoice]; exact hrs)
        (by rw [hchoice]; exact Option.some_ne_none _)
    rw [exec_frameSent hreset hsending (resetDue_idle hidle), htaken, hchoice]
  · rw [exec_frameSent hreset hsending (resetDue_queued hr), settle_held (s := transmitted s) hheld]
    exact congrArg _ (startSend_reply (s := transmitted s) rfl hr)

end Sys2Proof.LinkProofs
end

section
/-!
PROOFS. The receiver (09_the_link_port.md section 9.2): what one byte does in each receive state, a whole frame taken
byte by byte, and the line's own events.
-/

namespace Sys2Proof.LinkProofs

open Sys2Proof.Machine Sys2Proof.Safety Sys2Proof.StageProofs

/-- An event whose effect leaves nothing for the service (R161, R164). -/
theorem event_rested {f : State → State} {s t : State} (hreset : s.resetCause = none) (hf : f s = t)
    (ht : Rested t.link) : event f s = .next t := by
  rw [event_outOfReset hreset, hf, settle_of_rested ht]

/-! ### One byte, by receive state (R158, R159) -/

section Byte

variable {s : State}

theorem receiveByte_waiting (b : Byte) (h : s.link.waitIdle = true) : receiveByte b s = s := if_pos h

theorem receiveByte_hunting (b : Byte) (hw : s.link.waitIdle = false) (hr : s.link.receiver = .hunting) :
    receiveByte b s = if b = startByte then assemble [] s else s := by
  simp [receiveByte, hw, hr]

theorem receiveByte_assembling {got : List Byte} (b : Byte) (hw : s.link.waitIdle = false)
    (hr : s.link.receiver = .assembling got) : receiveByte b s = collect (got ++ [b]) s := by
  simp [receiveByte, hw, hr]

theorem lenGood_iff (len : Byte) : lenGood len = true ↔ 2 ≤ len.toNat ∧ len.toNat ≤ 252 := by simp [lenGood]

/-- A LEN of 0, 1 or above 252 ends the frame at once (R158). -/
theorem collect_badLen {len : Byte} {rest : List Byte} (h : len.toNat < 2 ∨ 252 < len.toNat) :
    collect (len :: rest) s = hunt s := by
  have hbad : ¬lenGood len = true := fun hgood => by
    have hrange := (lenGood_iff len).mp hgood
    omega
  exact if_neg hbad

/-- Up to LEN bytes after LEN the frame is not yet whole (R158). -/
theorem collect_partial {len : Byte} {rest : List Byte} (hlen : lenGood len = true) (h : rest.length ≤ len.toNat) :
    collect (len :: rest) s = assemble (len :: rest) s := by
  simp [collect, hlen, Nat.lt_succ_of_le h]

/-- With LEN bytes and CHECK the frame is whole, and judged (R158, R160). -/
theorem collect_whole {len : Byte} {rest : List Byte} (hlen : lenGood len = true) (h : rest.length = len.toNat + 1) :
    collect (len :: rest) s = judge (len :: rest) (hunt s) := by
  simp [collect, hlen, h]

/-- A whole frame is the command it spells when its CHECK is right, and a link error otherwise (R160). -/
theorem judge_frame (len code tag check : Byte) (payload : List Byte) (s : State) :
    judge (len :: code :: tag :: payload ++ [check]) s =
      if crc8 (len :: code :: tag :: payload) = check then arrive ⟨code, tag, payload⟩ s else countLinkError s := by
  simp only [judge, List.dropLast_concat, List.getLastD_concat]
  rfl

/-- The last byte of a frame, its CHECK. -/
theorem receiveByte_check {len code tag : Byte} {payload : List Byte} (check : Byte) (hw : s.link.waitIdle = false)
    (hr : s.link.receiver = .assembling (len :: code :: tag :: payload)) (hlen : lenGood len = true)
    (h : (code :: tag :: payload).length = len.toNat) :
    receiveByte check s = if crc8 (len :: code :: tag :: payload) = check then arrive ⟨code, tag, payload⟩ (hunt s)
      else countLinkError (hunt s) := by
  have hwhole : (code :: tag :: payload ++ [check]).length = len.toNat + 1 := by rw [List.length_append, h]; rfl
  rw [receiveByte_assembling check hw hr, ← judge_frame]
  exact collect_whole hlen hwhole

end Byte

/-- A frame holds at least its code and its tag (R158). -/
theorem codeAndTag_of_length {len : Byte} {rest : List Byte} (hlen : 2 ≤ len.toNat) (h : rest.length = len.toNat) :
    ∃ code tag payload, rest = code :: tag :: payload := by
  match rest with
  | code :: tag :: payload => exact ⟨code, tag, payload, rfl⟩
  | [_] => rw [← h] at hlen; simp at hlen
  | [] => rw [← h] at hlen; simp at hlen

/-- Settles O9: the byte by receive state, and the last byte of a frame by its CHECK and the part that it finds. -/
theorem byteReceived : Obligations.ByteReceived := by
  intro b s hrest
  obtain ⟨hreset, hqueues⟩ := hrest
  have silent {t : State} (hf : receiveByte b s = t) (ht : Rested t.link) : exec (.byteReceived b) s = .next t :=
    event_rested hreset hf ht
  refine ⟨fun hw => ?_, fun hw hr hb => ?_, fun hw hr hb => ?_, fun hw hr hbad => ?_, fun hw hr h2 h252 => ?_,
    fun len rest hw hr h2 h252 => ?_⟩
  · exact silent (receiveByte_waiting b hw) hqueues
  · exact silent ((receiveByte_hunting b hw hr).trans (if_neg hb)) hqueues
  · exact silent ((receiveByte_hunting b hw hr).trans (if_pos hb)) hqueues
  · exact silent ((receiveByte_assembling b hw hr).trans (collect_badLen hbad)) hqueues
  · have hlen := (lenGood_iff b).mpr ⟨h2, h252⟩
    exact silent ((receiveByte_assembling b hw hr).trans (collect_partial hlen (Nat.zero_le _))) hqueues
  · have hlen := (lenGood_iff len).mpr ⟨h2, h252⟩
    refine ⟨fun hpart => ?_, fun hwhole hcheck => ?_, fun hwhole hcheck hfull => ?_,
      fun code tag payload hframe hwhole hcheck hready => ?_⟩
    · have hone : (rest ++ [b]).length ≤ len.toNat := by rw [List.length_append]; exact hpart
      exact silent ((receiveByte_assembling b hw hr).trans (collect_partial hlen hone)) hqueues
    · obtain ⟨code, tag, payload, rfl⟩ := codeAndTag_of_length h2 hwhole
      exact silent ((receiveByte_check b hw hr hlen hwhole).trans (if_neg hcheck.symm)) hqueues
    · obtain ⟨code, tag, payload, rfl⟩ := codeAndTag_of_length h2 hwhole
      have hfits : payload.length ≤ 250 := by simp at hwhole; omega
      exact silent (((receiveByte_check b hw hr hlen hwhole).trans (if_pos hcheck.symm)).trans
        (arrive_full (s := hunt s) hfits hfull)) hqueues
    · subst hframe
      have hfits : payload.length ≤ 250 := by simp at hwhole; omega
      have harrives : receiveByte b s = arrive ⟨code, tag, payload⟩ (hunt s) :=
        (receiveByte_check b hw hr hlen hwhole).trans (if_pos hcheck.symm)
      have hanswered := event_arrive_of_ready (f := ⟨code, tag, payload⟩) (s := hunt s) hfits hready
      rw [event_outOfReset (s := hunt s) hreset] at hanswered
      show event (receiveByte b) s = _
      rw [event_outOfReset hreset, harrives]
      exact hanswered

/-! ### A whole frame, byte by byte (R158, R160, log entry 31) -/

theorem receiveFrame_cons (b : Byte) (bs : List Byte) (s : State) :
    receiveFrame (b :: bs) s = receiveFrame bs (settle (receiveByte b s)) := rfl

theorem receiveFrame_concat (bs : List Byte) (b : Byte) (s : State) :
    receiveFrame (bs ++ [b]) s = settle (receiveByte b (receiveFrame bs s)) := by
  simp only [receiveFrame, List.foldl_append, List.foldl_cons, List.foldl_nil]

/-- Up to LEN bytes after LEN are collected one by one, with nothing for the service to do between them. -/
theorem receiveFrame_collects {len : Byte} {s : State} (hrest : Rested s.link) (hw : s.link.waitIdle = false)
    (hlen : lenGood len = true) : ∀ bs got, got.length + bs.length ≤ len.toNat →
    receiveFrame bs (assemble (len :: got) s) = assemble (len :: (got ++ bs)) s
  | [], got, _ => by rw [List.append_nil]; rfl
  | b :: bs, got, h => by
    rw [List.length_cons] at h
    have hone : (got ++ [b]).length ≤ len.toNat := by rw [List.length_append, List.length_singleton]; omega
    have hbyte : receiveByte b (assemble (len :: got) s) = assemble (len :: (got ++ [b])) s :=
      (receiveByte_assembling (s := assemble (len :: got) s) b hw rfl).trans (collect_partial hlen hone)
    have hserved : settle (assemble (len :: (got ++ [b])) s) = assemble (len :: (got ++ [b])) s :=
      settle_of_rested hrest
    have hall : got ++ b :: bs = got ++ [b] ++ bs := by simp
    rw [receiveFrame_cons, hbyte, hserved, hall]
    refine receiveFrame_collects hrest hw hlen bs (got ++ [b]) ?_
    rw [List.length_append, List.length_singleton]
    omega

/-- LEN of a frame is the length of its code, tag and payload (R182). -/
theorem frameLen_toNat {f : Frame} (h : f.payload.length ≤ 250) :
    (BitVec.ofNat 8 (2 + f.payload.length)).toNat = 2 + f.payload.length := by
  rw [BitVec.toNat_ofNat]
  omega

theorem hunt_hunting {s : State} (hr : s.link.receiver = .hunting) (hg : s.link.gapTimer = none) : hunt s = s := by
  rw [hunt, ← hr, ← hg]

/-- A frame on the line, whatever its CHECK, is judged once, by a receiver that hunts (R158, R160). -/
theorem receiveFrame_judged {f : Frame} {s : State} (check : Byte) (hp : f.payload.length ≤ 250)
    (hrest : Rested s.link) (hw : s.link.waitIdle = false) (hr : s.link.receiver = .hunting)
    (hg : s.link.gapTimer = none) :
    receiveFrame (startByte :: (frameBody f ++ [check])) s =
      settle (if crc8 (frameBody f) = check then arrive f s else countLinkError s) := by
  have hcount := frameLen_toNat hp
  have hlen : lenGood (BitVec.ofNat 8 (2 + f.payload.length)) = true := (lenGood_iff _).mpr (by omega)
  have hstart : settle (receiveByte startByte s) = assemble [] s := by
    rw [receiveByte_hunting _ hw hr, if_pos rfl]
    exact settle_of_rested hrest
  have hfirst : settle (receiveByte (BitVec.ofNat 8 (2 + f.payload.length)) (assemble [] s)) =
      assemble [BitVec.ofNat 8 (2 + f.payload.length)] s := by
    rw [receiveByte_assembling (s := assemble [] s) _ hw rfl]
    exact (congrArg settle (collect_partial hlen (Nat.zero_le _))).trans (settle_of_rested hrest)
  have hbody : receiveFrame (startByte :: frameBody f) s = assemble (frameBody f) s := by
    rw [receiveFrame_cons, hstart, frameBody, receiveFrame_cons, hfirst]
    refine receiveFrame_collects hrest hw hlen (f.code :: f.tag :: f.payload) [] ?_
    simp only [List.length_cons, List.length_nil]
    omega
  have hhunts : hunt (assemble (frameBody f) s) = s := hunt_hunting hr hg
  have hlast : receiveByte check (assemble (frameBody f) s) =
      if crc8 (frameBody f) = check then arrive f s else countLinkError s := by
    have hwhole : (f.code :: f.tag :: f.payload).length = (BitVec.ofNat 8 (2 + f.payload.length)).toNat := by
      simp only [List.length_cons]
      omega
    have hbyte := receiveByte_check (s := assemble (frameBody f) s) check hw rfl hlen hwhole
    rwa [hhunts] at hbyte
  rw [← List.cons_append, receiveFrame_concat, hbody, hlast]

/-- Settles O10: the frame's bytes are judged once, so a right CHECK is the arrival of the command and any other a link
error. -/
theorem frameReceivedIsItsCommand : Obligations.FrameReceivedIsItsCommand := by
  intro i f s hi hp hrest hw hr hg
  obtain ⟨hreset, hqueues⟩ := hrest
  have hexec (check : Byte) : exec (.frameReceived (startByte :: (frameBody f ++ [check]))) s =
      .next (settle (if crc8 (frameBody f) = check then arrive f s else countLinkError s)) := by
    show event (receiveFrame _) s = _
    rw [event_outOfReset hreset, receiveFrame_judged check hp hqueues hw hr hg, settle_idem]
  have hcommand : exec (.frameReceived (frameBytes f)) s = event (arrive f) s := by
    rw [event_outOfReset hreset]
    exact (hexec _).trans (by rw [if_pos rfl])
  refine ⟨hcommand.trans (exec_hostFrame hi s).symm, fun hready => hcommand.trans (event_arrive_of_ready hp hready),
    fun check hcheck => ?_⟩
  refine (hexec check).trans ?_
  rw [if_neg hcheck.symm]
  exact congrArg _ (settle_of_rested (s := countLinkError s) hqueues)

/-! ### The line's other events (R159) -/

/-- Settles O11: no event of the line leaves anything for the service. -/
theorem lineErrors : Obligations.LineErrors := by
  intro s hrest
  obtain ⟨hreset, hqueues⟩ := hrest
  refine ⟨fun held hw => ?_, fun held hw => ?_, fun hg => ?_, fun hg => ?_, ?_⟩
  · refine event_rested (f := framingErrorSeen held) hreset ?_ hqueues
    simp only [framingErrorSeen, hw, Bool.false_eq_true, if_false]
    rfl
  · exact event_rested (f := framingErrorSeen held) hreset (if_pos hw) hqueues
  · obtain ⟨time, htime⟩ := Option.ne_none_iff_exists'.mp hg
    have hexpires : gapTimerExpires s = hunt s := by simp [gapTimerExpires, htime]
    exact event_rested hreset hexpires hqueues
  · have hstopped : gapTimerExpires s = s := by simp [gapTimerExpires, hg]
    exact event_rested hreset hstopped hqueues
  · exact event_rested (f := lineIdle) hreset rfl hqueues

end Sys2Proof.LinkProofs
end

section
/-!
PROOFS. The Link Port's own commands and the commands that store settings (09_the_link_port.md sections 9.4 and 9.5,
R29, R116, R154, R179): what each parse answers, and what each command stores and replies.
-/

namespace Sys2Proof.LinkProofs

open Sys2Proof.Machine Sys2Proof.Safety Sys2Proof.ShotTableProofs Sys2Proof.RunControlProofs Sys2Proof.RegulatorProofs
  Sys2Proof.StageProofs

/-! ### IDENTIFY and STATUS (R168, R169) -/

/-- A command that is not stageable is executed directly wherever it is taken, an OPEN bank or none (R130, R161). -/
theorem execute_unstageable {c : Command} (h : isStageable c = false) (tag : Byte) (p : List Byte) (s : State) :
    execute ⟨commandCode c, tag, p⟩ s = executeDirect c p s := by
  simp only [execute, commandOfCode_commandCode, executeCommand_unstageable h]

/-- Settles O12: IDENTIFY answers its constants, from any state. -/
theorem identifyAnswers : Obligations.IdentifyAnswers := by
  refine ⟨fun tag s => execute_unstageable (c := .identify) rfl tag [] s, fun tag p s hp => ?_, fun tag s hready =>
    hostCommand_unstageable hready (Nat.zero_le _) rfl⟩
  have hlen : p.length ≠ payloadLength .identify := mt List.eq_nil_of_length_eq_zero hp
  exact (execute_unstageable (c := .identify) rfl tag p s).trans (executeDirect_badLength s hlen)

/-- Settles O13: STATUS answers the state's bytes, from any state. -/
theorem statusAnswers : Obligations.StatusAnswers := by
  intro tag s
  exact ⟨execute_unstageable (c := .status) rfl tag [] s, rfl,
    fun hready => hostCommand_unstageable hready (Nat.zero_le _) rfl⟩

/-! ### REPORT_MASK (R166) and SENSE_SET (R29) -/

theorem takeReportMask_byte (m : Byte) (s : State) :
    takeReportMask [m] s = if m.toNat < 128 then accept { s with link.mask := m } [m] else refuse .badValue s := by
  have hparse : parseMask [m] = if m.toNat < 128 then .ok m else .error .badValue := by
    exact (sized_checked (p := [m]) rfl (decide (m.toNat < 128)) m).trans (by simp only [decide_eq_true_eq])
  rw [takeReportMask, hparse]
  by_cases h : m.toNat < 128 <;> simp [h]

/-- Four 2-byte fields are read back from their bytes (R29). -/
theorem quad2At_quad2 {q : Quad Nat} (h : ∀ i, q.get i ≤ 65535) : quad2At (quad2 q) 0 = q := by
  have hfits (i : Fin 4) : q.get i < 65536 := Nat.lt_succ_of_le (h i)
  simp only [quad2At]
  rw [word16At_le2 (n := q.q0) (hfits 0) rfl rfl, word16At_le2 (n := q.q1) (hfits 1) rfl rfl,
    word16At_le2 (n := q.q2) (hfits 2) rfl rfl, word16At_le2 (n := q.q3) (hfits 3) rfl rfl]

theorem takeSenseSet_quad2 {q : Quad Nat} (h : ∀ i, q.get i ≤ 65535) (s : State) :
    takeSenseSet (quad2 q) s = accept { s with sense.baselines := q } (quad2 q) := by
  have hparse : parseSenseSet (quad2 q) = .ok q := by
    rw [parseSenseSet, quad2At_quad2 h]
    exact sized_some rfl q
  simp [takeSenseSet, hparse]

/-! ### LIGHT_DUTY (R116) -/

/-- LIGHT_DUTY passes or fails by its heat limit alone; any cooling rate is taken (R116). -/
theorem parseLightDuty_bytes (l : Light) {limit : Nat} (rate : Nat) (hlimit : limit < 4294967296) :
    parseLightDuty (lightCode l :: (le4 limit ++ le2 rate)) =
      if 1 ≤ limit ∧ limit ≤ 4000000
      then .ok (l, limit, word16At (lightCode l :: (le4 limit ++ le2 rate)) 5) else .error .badValue := by
  have hread : word32At (lightCode l :: (le4 limit ++ le2 rate)) 1 = limit := by
    rw [le4_eq]
    exact word32At_le4 hlimit rfl rfl rfl rfl
  rw [parseLightDuty, lightAt_code, hread]
  exact (sized_checked rfl _ _).trans (by simp only [Bool.and_eq_true, decide_eq_true_eq])

theorem parseLightDuty_inRange (l : Light) {limit rate : Nat} (h1 : 1 ≤ limit) (h4 : limit ≤ 4000000)
    (hrate : rate ≤ 65535) : parseLightDuty (lightCode l :: (le4 limit ++ le2 rate)) = .ok (l, limit, rate) := by
  rw [parseLightDuty_bytes l rate (by omega), if_pos ⟨h1, h4⟩, word16At_le2 (Nat.lt_succ_of_le hrate) rfl rfl]

theorem parseLightDuty_outOfRange (l : Light) {limit : Nat} (rate : Nat) (h : limit = 0 ∨ 4000000 < limit)
    (hlimit : limit < 4294967296) :
    parseLightDuty (lightCode l :: (le4 limit ++ le2 rate)) = .error .badValue := by
  rw [parseLightDuty_bytes l rate hlimit, if_neg (by omega)]

theorem parseLightDuty_noLight {x : Byte} {rest : List Byte} (h : 8 ≤ x.toNat) (hlen : rest.length = 6) :
    parseLightDuty (x :: rest) = .error .badValue := by
  rw [parseLightDuty, lightAt_none h]
  exact sized_none (by simp [hlen])

theorem takeLightDuty_refused {p : List Byte} {st : Status} (s : State) (h : parseLightDuty p = .error st) :
    takeLightDuty p s = refuse st s := by
  simp [takeLightDuty, h]

theorem takeLightDuty_stores {p : List Byte} {l : Light} {limit rate : Nat} (s : State)
    (h : parseLightDuty p = .ok (l, limit, rate)) :
    takeLightDuty p s = accept (putLightDuty l limit rate s)
      ([lightCode l] ++ le4 limit ++ le2 rate ++ le4 (s.lights.channels.get l).heat) := by
  simp [takeLightDuty, h, putLightDuty, updateLight]

theorem lightDuty_ready {tag : Byte} {p : List Byte} {s : State} (h : Ready s) (hn : NoOpen s) (hlen : p.length = 7) :
    exec (.lightDuty tag p) s = .next (replied 0xB8#8 tag (takeLightDuty p s).reply (takeLightDuty p s).state) :=
  hostCommand_noOpen h hn (by omega)

/-! ### RESULT_THRESHOLD (R154) and SUPPLY_SETUP (R179) -/

theorem takeResultThreshold_le2 {n : Nat} (h : n < 65536) (s : State) :
    takeResultThreshold (le2 n) s =
      if 1 ≤ n ∧ n ≤ 512 then accept { s with results.threshold := n } (le2 n ++ le2 s.results.records.length)
      else refuse .badValue s := by
  have hparse : parseThreshold (le2 n) = if 1 ≤ n ∧ n ≤ 512 then .ok n else .error .badValue := by
    rw [parseThreshold, word16At_le2 h rfl rfl]
    exact (sized_checked rfl _ _).trans (by simp only [Bool.and_eq_true, decide_eq_true_eq])
  rw [takeResultThreshold, hparse]
  by_cases hrange : 1 ≤ n ∧ n ≤ 512 <;> simp [hrange, ResultQueue.count]

theorem wakeAt_byte (n : Nat) (w : Byte) : byteAt (le1 n ++ [w]) 1 = w.toNat := rfl

theorem takeSupplySetup_stores {n : Nat} (w : Bool) (h1 : 1 ≤ n) (h100 : n ≤ 100) (s : State) :
    takeSupplySetup (le1 n ++ [boolCode w]) s =
      accept { s with supply.settle := n, supply.wakeOnTrigger := w }
        (le1 n ++ [boolCode w] ++ [supplyModeCode s.supply.mode]) := by
  have hparse : parseSupplySetup (le1 n ++ [boolCode w]) = .ok (n, w) := by
    rw [parseSupplySetup, wakeAt_byte, boolOf_code, byteAt_le1 (by omega)]
    exact (sized_checked rfl _ _).trans (if_pos (by simp [h1, h100]))
  simp [takeSupplySetup, hparse, modeField]

/-- A settle time outside 1 to 100 or an undefined flag is BAD_VALUE (R179, R183). -/
theorem takeSupplySetup_refused {n : Nat} {w : Byte} (h : n = 0 ∨ 100 < n ∨ 1 < w.toNat) (hn : n < 256)
    (s : State) : takeSupplySetup (le1 n ++ [w]) s = refuse .badValue s := by
  have hparse : parseSupplySetup (le1 n ++ [w]) = .error .badValue := by
    rw [parseSupplySetup, wakeAt_byte, byteAt_le1 hn]
    cases hwake : boolOf w.toNat with
    | none => exact sized_none rfl
    | some wake =>
      have hdefined : ¬2 ≤ w.toNat := fun hw => by rw [boolOf_none hw] at hwake; cases hwake
      have hrange : ¬(1 ≤ n ∧ n ≤ 100) := by omega
      exact (sized_checked rfl _ _).trans (if_neg (by simpa using hrange))
  simp [takeSupplySetup, hparse]

/-- Settles O14: each command by its range. -/
theorem settingsStored : Obligations.SettingsStored := by
  intro tag s hready
  have direct {c : Command} {p : List Byte} (hc : isStageable c = false) (hp : p.length ≤ 250) :=
    hostCommand_unstageable (tag := tag) hready hp hc
  refine ⟨fun m hm => ?_, fun m hm => ?_, fun q hq => ?_, fun hnone l limit rate h1 h4 hrate => ?_,
    fun hnone l limit rate hout hlimit => ?_, fun hnone x rest hx hlen => ?_, fun n h1 h512 => ?_, fun n hout hn => ?_,
    fun n w h1 h100 => ?_, fun n w hout hn => ?_⟩
  · refine (direct (c := .reportMask) rfl (by simp)).trans ?_
    simp only [executeDirect, takeReportMask_byte, if_pos hm]
    rfl
  · refine (direct (c := .reportMask) rfl (by simp)).trans ?_
    simp only [executeDirect, takeReportMask_byte, if_neg (Nat.not_lt.mpr hm)]
    rfl
  · refine (direct (c := .senseSet) rfl (by simp [quad2, le2])).trans ?_
    simp only [executeDirect, takeSenseSet_quad2 hq]
    rfl
  · rw [lightDuty_ready hready hnone rfl, takeLightDuty_stores s (parseLightDuty_inRange l h1 h4 hrate)]
    rfl
  · rw [lightDuty_ready hready hnone rfl, takeLightDuty_refused s (parseLightDuty_outOfRange l rate hout hlimit)]
    rfl
  · rw [lightDuty_ready hready hnone (by simp [hlen]), takeLightDuty_refused s (parseLightDuty_noLight hx hlen)]
    rfl
  · refine (direct (c := .resultThreshold) rfl (by simp [le2])).trans ?_
    simp only [executeDirect, takeResultThreshold_le2 (by omega : n < 65536), if_pos (And.intro h1 h512)]
    rfl
  · refine (direct (c := .resultThreshold) rfl (by simp [le2])).trans ?_
    have hrange : ¬(1 ≤ n ∧ n ≤ 512) := by omega
    simp only [executeDirect, takeResultThreshold_le2 (Nat.lt_succ_of_le hn), if_neg hrange]
    rfl
  · refine (direct (c := .supplySetup) rfl (by simp [le1])).trans ?_
    simp only [executeDirect, takeSupplySetup_stores w h1 h100]
    rfl
  · refine (direct (c := .supplySetup) rfl (by simp [le1])).trans ?_
    simp only [executeDirect, takeSupplySetup_refused hout hn]
    rfl

end Sys2Proof.LinkProofs
end

section
/-!
PROOFS. The resets (09_the_link_port.md section 9.6): the run reset, the full reset of a command, of power-on and of
RSTN, reset completion, and that nothing else acts while the part is in reset.
-/

namespace Sys2Proof.LinkProofs

open Sys2Proof.Machine Sys2Proof.Safety Sys2Proof.ShotProofs Sys2Proof.RunControlProofs Sys2Proof.StageProofs

/-! ### The run reset (R170) -/

/-- A regulator after a run reset: its accumulator cleared, and in AUTO it converges anew (R109). -/
theorem runResetRegulator_eq (r : Regulator) :
    runResetRegulator r =
      { r with state := if r.mode = .auto then .converging else r.state, sum := 0, count := 0, clipped := false } := by
  by_cases h : r.mode = .auto <;> simp [runResetRegulator, clearAccumulator, h]

/-- A bank after a run reset: PENDING is READY again (R146). -/
theorem runResetBank_eq (b : Bank) :
    runResetBank b = { b with state := if b.state = .pending then .ready else b.state } := by
  rw [← runResetBank_state, ← runResetBank_records]

/-- What a run reset clears, but for its report (R170). -/
def runResetPart (s : State) : State := clearRunning { stopRun (stopSequencer s) with run.state := .idle }

theorem runReset_frame (s : State) : runReset s = { runResetPart s with link := (runReset s).link } := by
  rw [runReset, goIdle_frame]
  rfl

/-- The report of a run that a run reset ends (R69, R170; log entry 13). -/
def runResetReport (s : State) : List Byte :=
  [0#8, runStateCode s.run.state, 9#8] ++ le4 s.seq.cycleNumber ++ le4 s.run.cycleCount ++ le4 s.run.missed ++ [0#8]

/-- A run reset raises RUN_STATE exactly when the run state was not IDLE (R70, R170). -/
theorem runReset_link (s : State) :
    (runReset s).link = (if s.run.state = .idle then s else raise .runState (runResetReport s) s).link := by
  show (goIdle .reset (stopRun (stopSequencer s))).link = _
  have hstate : (stopRun (stopSequencer s)).run.state = s.run.state := rfl
  rw [goIdle, hstate]
  split
  · rfl
  · exact raise_link_of_link _ _ rfl

/-- Settles O15: the state after a run reset by `runReset_frame`, its report by `runReset_link`. -/
theorem runResetEffect : Obligations.RunResetEffect := by
  intro tag s hready
  have ⟨hout, _⟩ := hready
  obtain ⟨link, hframe, hlink⟩ : ∃ link, runReset s = { runResetPart s with link := link } ∧ link = _ :=
    ⟨_, runReset_frame s, runReset_link s⟩
  have hexec : exec (.resetRun tag) s = .next (replied 0x84#8 tag [0#8] (runReset s)) :=
    hostCommand_unstageable hready (by simp) rfl
  have hregs (l : Light) : (runResetPart s).regs.get l = runResetRegulator (s.regs.get l) :=
    Octet.get_map runResetRegulator s.regs l
  have hbanks (b : Fin 4) : (runResetPart s).stage.banks.get b = runResetBank (s.stage.banks.get b) :=
    Quad.get_map runResetBank s.stage.banks b
  have hchannels (l : Light) : (runResetPart s).lights.channels.get l = channelOff (s.lights.channels.get l) :=
    Octet.get_map channelOff s.lights.channels l
  rw [hexec, hframe]
  exact ⟨{ runResetPart s with link := link }, rfl, rfl, rfl, rfl,
    fun l => (hregs l).trans (runResetRegulator_eq _), rfl, hchannels, rfl, rfl, rfl, rfl,
    fun b => (hbanks b).trans (runResetBank_eq _), rfl, rfl, rfl, hout, rfl, hlink⟩

/-! ### The full reset of RESET FULL (R171, R172) -/

/-- The part when the full reset of a RESET FULL has completed. -/
theorem commandReset_eq (s : State) :
    commandReset s = { startLights (fullReset .command s) with
      link := { LinkPort.reset with sending := some (frameBytes (readyFrame .command)) }, resetCause := none } :=
  completeReset_link (s := fullReset .command s) rfl rfl

theorem resetDue_held {s : State} (hheld : s.link.executor = .holding) (hsent : s.link.replies = []) :
    resetDue s = true := by
  simp [resetDue, hheld, hsent]

theorem resetDue_false {s : State} (h : s.link.executor = .idle ∨ s.link.replies ≠ []) : resetDue s = false := by
  rcases h with hidle | hqueued
  · exact resetDue_idle hidle
  · obtain ⟨_, _, hcons⟩ := List.exists_cons_of_ne_nil hqueued
    exact resetDue_queued hcons

/-- READY is in transmission and no command waits, so the service has nothing to do. -/
theorem commandReset_rested (s : State) : Rested (commandReset s).link := by
  rw [commandReset_eq]
  exact ⟨nofun, .inl rfl⟩

/-- Settles O16: the reply that holds the executor, the reset by either event, and no reset before it is due. -/
theorem fullResetAfterReply : Obligations.FullResetAfterReply := by
  intro tag s hreset
  refine ⟨fun hready => hostCommand_unstageable hready (by simp) rfl, fun hsending hheld hsent => ?_,
    fun hnot hrest => ?_⟩
  · have hdue := resetDue_held hheld hsent
    obtain ⟨bytes, hbytes⟩ := Option.ne_none_iff_exists'.mp hsending
    have hframeSent : frameSentEvent s = commandReset s := by simp [frameSentEvent, hbytes, hdue]
    have hfullReset : fullResetEvent s = commandReset s := if_pos hdue
    have hdone := congrArg (Host.Outcome.next (φ := Fault) (ρ := Refusal)) (commandReset_eq s)
    exact ⟨(event_rested hreset hframeSent (commandReset_rested s)).trans hdone,
      (event_rested hreset hfullReset (commandReset_rested s)).trans hdone⟩
  · have ⟨_, hqueues⟩ := hrest
    have hnothing : fullResetEvent s = s := by simp [fullResetEvent, resetDue_false hnot]
    exact event_rested hreset hnothing hqueues

/-- Settles O17: `fullReset` gives every block its reset value, whatever the state. -/
theorem hardResetActsAtOnce : Obligations.HardResetActsAtOnce := fun _ => ⟨rfl, rfl⟩

/-! ### Reset completion (R115, R125, R167, R172) -/

theorem completeReset_outOfReset {s : State} (h : s.resetCause = none) : completeReset s = s := by
  simp [completeReset, h]

/-- With every line inactive the lights are at their full-reset values at completion (R125). -/
theorem startLights_inactive {s : State} (h : s.pins.faultLines = 0#8) :
    startLights s = { s with lights := LightUnit.reset (some 1000) } := by
  rw [startLights, h]
  rfl

/-- The completion of a power-on reset with the pins at rest is the state after reset (log entry 1). -/
theorem completeReset_powerOn {s : State}
    (hpins : s.pins = { trigHigh := false, faultLines := 0#8, photocurrents := ⟨0, 0, 0, 0⟩ })
    (hpending : s.pending = []) : completeReset (fullReset .power s) = State.reset := by
  have hlines : (fullReset .power s).pins.faultLines = 0#8 := congrArg Pins.faultLines hpins
  rw [completeReset_link (s := fullReset .power s) rfl rfl, startLights_inactive hlines]
  simp only [fullReset, hpins, hpending]
  rfl

/-- Settles O18: completion from reset, out of reset, and of a power-on. -/
theorem resetCompletes : Obligations.ResetCompletes := by
  refine ⟨fun c s hc hlink => ?_, fun s hreset => ?_, fun s t hpins hpending hon => ?_⟩
  · exact ⟨_, congrArg Host.Outcome.next (completeReset_link hc hlink), rfl, rfl,
      fun l => Octet.get_ofFn (lightAtCompletion s.pins.faultLines) l⟩
  · exact congrArg Host.Outcome.next (completeReset_outOfReset hreset)
  · cases hon
    exact congrArg Host.Outcome.next (completeReset_powerOn hpins hpending)

/-! ### In reset (R167, R172; log entry 12) -/

theorem pinEvent_inReset {level f : State → State} {s : State} (h : s.resetCause ≠ none) :
    pinEvent level f s = .next (level s) := by
  simp [pinEvent, Option.isSome_iff_ne_none.mpr h]

/-- Settles O19: every event but the resets and those of the level pins is let pass, and these set their pin. -/
theorem inResetNothingActs : Obligations.InResetNothingActs := by
  refine ⟨fun i s hin hpower hpin hcompletion => ?_, fun s hin => ⟨?_, ?_, fun l => ?_⟩⟩
  · cases i
    case powerOn => exact absurd rfl hpower
    case rstnLow => exact absurd rfl hpin
    case resetCompletion => exact absurd rfl hcompletion
    case trigActiveEdge => exact ⟨_, pinEvent_inReset hin, rfl, fun _ _ h _ => absurd rfl h⟩
    case trigInactiveEdge => exact ⟨_, pinEvent_inReset hin, rfl, fun _ _ _ h => absurd rfl h⟩
    case faultArrival l => exact ⟨_, pinEvent_inReset hin, rfl, fun h _ _ _ => absurd rfl (h l)⟩
    case faultLineReturnToInactive l => exact ⟨_, pinEvent_inReset hin, rfl, fun _ h _ _ => absurd rfl (h l)⟩
    all_goals exact ⟨s, event_inReset hin _, rfl, fun _ _ _ _ => rfl⟩
  · exact (pinEvent_inReset hin).trans (congrArg _ (setTrig_true s))
  · exact (pinEvent_inReset hin).trans (congrArg _ (setTrig_false s))
  · have hdropped (k : Light) : (dropLight s.pins.faultLines l).getLsbD k.val =
        (decide (k ≠ l) && s.pins.faultLines.getLsbD k.val) := by
      simp only [ne_eq, decide_not, ← beq_eq_decide]
      exact hasLight_dropLight _ l k
    exact ⟨addLight s.pins.faultLines l, dropLight s.pins.faultLines l, fun k => hasLight_addLight _ l k, hdropped,
      pinEvent_inReset hin, pinEvent_inReset hin⟩

end Sys2Proof.LinkProofs
end

section
/-!
PROOFS. Every command and event answers a next state and leaves the waiting ones alone (R161), and the state after reset
is sound (R172).
-/

namespace Sys2Proof.LinkProofs

open Sys2Proof.Machine Sys2Proof.Safety Sys2Proof.BlocksProofs Sys2Proof.StageProofs Sys2Proof.RunProofs

/-! ### The queue of waiting commands -/

section Pending

variable {s : State} {level f : State → State}

theorem event_answersNext (h : (f s).pending = s.pending) : ∃ t, event f s = .next t ∧ t.pending = s.pending := by
  refine ⟨_, rfl, ?_⟩
  split
  · rfl
  · exact (settle_pending _).trans h

theorem pinEvent_answersNext (hlevel : (level s).pending = s.pending) (h : (f s).pending = s.pending) :
    ∃ t, pinEvent level f s = .next t ∧ t.pending = s.pending := by
  refine ⟨_, rfl, ?_⟩
  split
  · exact hlevel
  · exact (settle_pending _).trans h

end Pending

theorem pending_of_onlyLink {s t : State} (h : OnlyLink s t) : t.pending = s.pending := by
  obtain ⟨_, rfl⟩ := h
  rfl

theorem receiveFrame_pending (bytes : List Byte) (s : State) : (receiveFrame bytes s).pending = s.pending := by
  induction bytes generalizing s with
  | nil => rfl
  | cons b bs ih =>
    rw [receiveFrame_cons, ih, settle_pending]
    exact pending_of_onlyLink (.receiveByte b s)

theorem completeReset_pending (s : State) : (completeReset s).pending = s.pending := by
  unfold completeReset
  split
  · rfl
  · exact startSend_pending _

theorem frameSentEvent_pending (s : State) : (frameSentEvent s).pending = s.pending := by
  unfold frameSentEvent
  split
  · split
    · exact completeReset_pending (fullReset .command s)
    · rfl
  · rfl

theorem fullResetEvent_pending (s : State) : (fullResetEvent s).pending = s.pending := by
  unfold fullResetEvent
  split
  · exact completeReset_pending (fullReset .command s)
  · rfl

/-- Settles O2: every arm of the dispatch is an event, a pin's event or a reset, and none writes the queue. -/
theorem execAnswersNext : Obligations.ExecAnswersNext := by
  intro i s
  cases i
  case frameReceived bytes => exact event_answersNext (receiveFrame_pending bytes s)
  case byteReceived b => exact event_answersNext (pending_of_onlyLink (.receiveByte b s))
  case framingError held => exact event_answersNext (pending_of_onlyLink (.framingErrorSeen held s))
  case gapTimerExpiry => exact event_answersNext (pending_of_onlyLink (.gapTimerExpires s))
  case lineReturnToIdle => exact event_answersNext (f := lineIdle) rfl
  case frameSent => exact event_answersNext (frameSentEvent_pending s)
  case fullReset => exact event_answersNext (fullResetEvent_pending s)
  case powerOn => exact ⟨_, rfl, rfl⟩
  case rstnLow => exact ⟨_, rfl, rfl⟩
  case resetCompletion => exact ⟨_, rfl, completeReset_pending s⟩
  case pacerExpiry => exact event_answersNext (pacerExpiry_untouched s).pending
  case encEdge => exact event_answersNext (encoderEdge_untouched s).pending
  case encoderCounterZero => exact event_answersNext (encoderZero_untouched s).pending
  case trigActiveEdge => exact pinEvent_answersNext rfl (trigActiveEdge_untouched s).pending
  case trigInactiveEdge => exact pinEvent_answersNext rfl (trigInactiveEdge_untouched s).pending
  case syncEdge d => exact event_answersNext (syncEdge_untouched d s).pending
  case watchExpiry => exact event_answersNext (watchExpiry_untouched s).pending
  case phaseDelayEnd => exact event_answersNext (phaseDelayEnd_untouched s).pending
  case flashStart => exact event_answersNext (flashStart_untouched s).pending
  case firingEnd l => exact event_answersNext (f := firingEnd l) rfl
  case flashEnd c m => exact event_answersNext (flashEnd_untouched c m s).pending
  case tailEnd => exact event_answersNext (tailEnd_untouched s).pending
  case gapEnd => exact event_answersNext (gapEnd_untouched s).pending
  case dutyTimerExpiry => exact event_answersNext (dutyTimerExpiry_untouched s).pending
  case faultArrival l => exact pinEvent_answersNext rfl (faultArrival_untouched l s).pending
  case settleExpiry => exact event_answersNext (settleExpiry_untouched s).pending
  case faultLineReturnToInactive l => exact pinEvent_answersNext (f := faultLineReturn l) rfl rfl
  all_goals exact event_answersNext (pending_of_onlyLink (.arrive _ s))

/-! ### The state after reset (R172; log entries 1 and 2) -/

/-- The state after reset is a reset completed: what a full reset has and its completion keeps, it has. -/
theorem reset_of_completed {P : State → Prop} (hkept : ∀ s, P s → P (completeReset s))
    (hreset : ∀ c s, P (fullReset c s)) : P State.reset := by
  have hcompleted : completeReset (fullReset .power State.reset) = State.reset := completeReset_powerOn rfl rfl
  exact hcompleted ▸ hkept _ (hreset .power State.reset)

theorem reset_blocks : RegulatorsSound State.reset ∧ HeatsSound State.reset ∧ TableSound State.reset ∧
    ResultsSound State.reset ∧ SenseSound State.reset := by
  refine ⟨fun l => ?_, fun l => ?_, ⟨Nat.zero_le _, nofun⟩, ?_, fun i => ?_⟩
  · simpa [State.reset] using reset_regulatorSound
  · simpa [State.reset, LightUnit.reset] using reset_heatSound false
  · simp [ResultsSound, State.reset, ResultQueue.reset, ResultQueue.count]
  · fin_cases i <;> simp [State.reset, SenseFrontEnd.reset, Quad.get]

theorem reset_supply_watch : SupplySound State.reset ∧ WatchSound State.reset := by
  simp [SupplySound, WatchSound, State.reset, SupplyController.reset, LineLock.reset]

/-- Settles O60: the blocks as they stand at reset; the rest by the full reset and its completion. -/
theorem resetIsSound : Obligations.ResetIsSound := by
  obtain ⟨hregs, hheats, htable, hresults, hsense⟩ := reset_blocks
  obtain ⟨hsupply, hwatch⟩ := reset_supply_watch
  have hlines : LinesLatched State.reset :=
    reset_of_completed (fun _ => completeReset_keeps_linesLatched) fullReset_linesLatched
  have hstage : StageSound State.reset := reset_of_completed stageSound_kept.kept.completeReset fullReset_stageSound
  have hlink : LinkSound State.reset := reset_of_completed (fun _ => completeReset_linkSound) fullReset_linkSound
  have hrun : RunSound State.reset := reset_of_completed runSound_kept.completeReset fullReset_sound
  exact ⟨hregs, hheats, htable, hresults, hsupply, hwatch, hlines, hstage, hlink, hrun, hsense⟩

end Sys2Proof.LinkProofs
end

section
/-!
PROOFS. STANDBY, WAKE and the settle timer's expiry (10_driver_supply_and_standby.md): what each command does when a
Ready part takes it, by supply mode, and what the expiry does to a timer that runs.
-/

namespace Sys2Proof.SupplyProofs

open Sys2Proof.Machine Sys2Proof.Safety Sys2Proof.BlocksProofs Sys2Proof.RunControlProofs

/-! ### The supply mode answered (R175, R176) -/

theorem modeField_changeSupply (m : SupplyMode) (c : SupplyCause) (s : State) :
    modeField (changeSupply m c s) = [supplyModeCode m] := by
  rw [modeField, SupplyWatchKept.changeSupply_supply]

/-! ### STANDBY (R175, R80) -/

theorem standby_ready {tag : Byte} {s : State} (h : Ready s) :
    exec (.standby tag []) s = .next (replied 0xD0#8 tag (takeStandby [] s).reply (takeStandby [] s).state) :=
  hostCommand_unstageable h (Nat.zero_le _) rfl

/-- STANDBY is free to leave OPERATE outside a run and a test shot, and to leave WAKING always (R175). -/
theorem takeStandby_enters {s : State}
    (h : s.supply.mode = .operate ∧ s.run.state = .idle ∧ s.seq.state ≠ .testing ∨ s.supply.mode = .waking) :
    takeStandby [] s = accept (enterStandby s) [supplyModeCode .standby] := by
  have hanswer : modeField (enterStandby s) = [supplyModeCode .standby] := modeField_changeSupply _ _ _
  rcases h with ⟨hmode, hfree⟩ | hmode
  · simp only [takeStandby, hmode, if_pos hfree, hanswer]
    rfl
  · simp only [takeStandby, hmode, hanswer]
    rfl

theorem takeStandby_busy {s : State} (hmode : s.supply.mode = .operate)
    (hbusy : s.run.state ≠ .idle ∨ s.seq.state = .testing) : takeStandby [] s = refuse .busy s := by
  have hnotFree : ¬(s.run.state = .idle ∧ s.seq.state ≠ .testing) := by tauto
  simp only [takeStandby, hmode, if_neg hnotFree]
  rfl

theorem takeStandby_standby {s : State} (hmode : s.supply.mode = .standby) :
    takeStandby [] s = accept s [supplyModeCode .standby] := by
  simp only [takeStandby, modeField, hmode]
  rfl

/-- A STANDBY that is free to act enters STANDBY and answers it. -/
theorem exec_standby_enters {tag : Byte} {s : State} (hready : Ready s)
    (h : s.supply.mode = .operate ∧ s.run.state = .idle ∧ s.seq.state ≠ .testing ∨ s.supply.mode = .waking) :
    exec (.standby tag []) s = .next (replied 0xD0#8 tag [0#8, 0#8] (enterStandby s)) := by
  rw [standby_ready hready, takeStandby_enters h]
  rfl

/-! ### WAKE (R176) -/

theorem wake_ready {tag : Byte} {s : State} (h : Ready s) :
    exec (.wake tag []) s = .next (replied 0xD1#8 tag (takeWake [] s).reply (takeWake [] s).state) :=
  hostCommand_unstageable h (Nat.zero_le _) rfl

theorem takeWake_standby {s : State} (hmode : s.supply.mode = .standby) :
    takeWake [] s = accept (wakeUp .wake s) [supplyModeCode .waking] := by
  have hanswer : modeField (wakeUp .wake s) = [supplyModeCode .waking] := modeField_changeSupply _ _ _
  simp only [takeWake, hmode, hanswer]
  rfl

/-- WAKE out of STANDBY answers the mode and changes nothing (R176). -/
theorem takeWake_awake {s : State} (hmode : s.supply.mode ≠ .standby) :
    takeWake [] s = accept s [supplyModeCode s.supply.mode] := by
  cases hawake : s.supply.mode with
  | standby => exact absurd hawake hmode
  | waking | operate =>
    simp only [takeWake, modeField, hawake]
    rfl

/-! ### The settle timer (R178; log entry 3) -/

theorem exec_settleExpiry {s : State} (h : Resting s) : exec .settleExpiry s = .next (startSend (settleExpiry s)) :=
  event_resting h (settleExpiry_untouched s)

theorem settleExpiry_stopped {s : State} (h : s.supply.settleTimer = none) : settleExpiry s = s := by
  simp only [settleExpiry, h]

theorem settleExpiry_running {s : State} (h : s.supply.settleTimer ≠ none) :
    settleExpiry s = changeSupply .operate .settle { s with supply.settleTimer := none } := by
  obtain ⟨time, htime⟩ := Option.ne_none_iff_exists'.mp h
  simp only [settleExpiry, htime]

/-- Settles O55: STANDBY and WAKE by the supply mode they find, and the expiry by its timer. -/
theorem supplyModes : Obligations.SupplyModes := by
  refine ⟨fun tag s hready => ⟨fun hmode hbusy => ?_, fun hmode hidle htest => ?_, fun hmode => ?_, fun hmode => ?_,
    fun hmode => ?_, fun hmode => ?_⟩, fun s hrest => ⟨fun hstopped => ?_, fun hrunning => ?_⟩⟩
  · rw [standby_ready hready, takeStandby_busy hmode hbusy]
    rfl
  · exact exec_standby_enters hready (.inl ⟨hmode, hidle, htest⟩)
  · exact exec_standby_enters hready (.inr hmode)
  · rw [standby_ready hready, takeStandby_standby hmode]
    rfl
  · rw [wake_ready hready, takeWake_standby hmode]
    rfl
  · rw [wake_ready hready, takeWake_awake hmode]
    rfl
  · rw [exec_settleExpiry hrest, settleExpiry_stopped hstopped, startSend_silent hrest rfl]
  · rw [exec_settleExpiry hrest, settleExpiry_running hrunning]

end Sys2Proof.SupplyProofs
end

section
/-!
PROOFS. The queue of commands (log entry 4): what a step does when a command waits. The step on an empty queue is
`ShotProofs.step_of_noPending`.
-/

namespace Sys2Proof.QueueProofs

open Sys2Proof.Machine

theorem step_of_pending {c : Instr} {rest : List Instr} {s : State} (h : s.pending = c :: rest) :
    step s = exec c { s with pending := rest } := by
  simp only [step, h]

/-- Settles O1: `step` on a queue that holds a command, read at the queue `c :: rest`. -/
theorem stepTakesFront : Obligations.StepTakesFront :=
  fun _ _ _ => step_of_pending rfl

end Sys2Proof.QueueProofs
end
